-- ==== Sys2Proof/Word.lean ====
section
/-! DEFINITION. Word.lean: the plain value types of the KL-220 model. Measured quantities are exact integers
(spec 00_scope.md, 4.3: "All arithmetic in the KL-220 is on integers and is computed exactly"), so only the bytes of
the faces and the sixteen-bit flag words are bit vectors. -/

namespace Sys2Proof

/-- One byte of a face of the station (sample port, service port, stored record). -/
abbrev Byte := BitVec 8

/-- A sixteen-bit flag field: the change word, the ACK-CHANGES mask, attention_mask (R178). -/
abbrev FlagWord := BitVec 16

/-- A station address, 0..15 (R141). -/
abbrev Address := Fin 16

/-- A load group's number, 0..7 (spec 6.1). -/
abbrev GroupNo := Fin 8

/-- A record slot's number, 0..7 (R122). -/
abbrev SlotNo := Fin 8

end Sys2Proof
end

