-- ==== Sys2Proof/Syntax.lean ====
section
/-! DEFINITION. Syntax.lean: the commands of the block, one constructor per row of spec/opcode_table.json, with the
operands the rules give them. A command of the service port carries its field bytes (their number is the length field of
R161); an event of the link carries the line's levels; where a rule lets one event's works be taken in either order, the
order is an operand, so that every order the rules allow is some command (log entries 6, 7, 8, 13). -/

namespace Sys2Proof

/-- Strapped role (R141). -/
inductive Role where
  | genset
  | feeder
  deriving DecidableEq, Repr

/-- Switchboard section (R141). -/
inductive Sect where
  | a
  | b
  deriving DecidableEq, Repr

/-- The levels of the strap pins ADR3..ADR0, ROLE, SECT (R141). -/
structure Straps where
  address : Address
  role : Role
  sect : Sect
  deriving DecidableEq, Repr

/-- The breakers a station may watch (spec 1.5): the set breaker, a group's breaker, the bus-tie breaker. -/
inductive Breaker where
  | set
  | group (g : GroupNo)
  | tie
  deriving DecidableEq, Repr

/-- What one accepted sample hands on (R3: "Each item touches its own state"), to be taken in the order the command
gives: the settles and FAULTs of the set breaker or the group breakers, the derivation of the tie state, UF set to the
shed unit and the load-share unit, UF set to disturbance capture, DEAD set, and the capture row. -/
inductive SamplePart where
  | breakers
  | tie
  | ufShed
  | ufTrigger
  | dead
  | row
  deriving DecidableEq, Repr

/-- The blocks that work after the test point of a share-timer expiry (R144), in the order the command gives. -/
inductive ExpiryPart where
  | loadShare
  | demand
  | shed
  | link
  deriving DecidableEq, Repr

/-- How far a store operation had gone when a reset cut it (R159): the record or mark stands as it stood before the
operation, or as the operation would have left it. -/
inductive StoreCut where
  | before
  | after
  deriving DecidableEq, Repr

/-- The commands, one per row of spec/opcode_table.json, in the table's order. -/
inductive Instr where
  /-- RESET (R141): power-on or the reset pin; the strap pins as they stand at reset release. -/
  | reset (pins : Straps) (cut : StoreCut)
  /-- END_OF_INIT (R142). -/
  | endOfInit
  /-- SAMPLE_ARRIVAL (R3): one transfer on the sample port, as its bytes. -/
  | sampleArrival (bytes : List Byte) (order : List SamplePart)
  /-- MEASURE_TIMER_HELD (R6). -/
  | measureTimerHeld
  /-- MEASURE_TIMER_FAULT (R7). -/
  | measureTimerFault
  /-- TRANSIT_TIMEOUT (R10) of one breaker. -/
  | transitTimeout (breaker : Breaker)
  /-- SHARE_TIMER_EXPIRY (R144). -/
  | shareTimerExpiry (order : List ExpiryPart)
  /-- LISTEN_END (R147): the share-timer expiry at which the LISTEN counter reaches 8. -/
  | listenEnd (order : List ExpiryPart)
  /-- FALLBACK_EXIT (R149): the share-timer expiry at which the FALLBACK exit counter reaches 4. -/
  | fallbackExit (order : List ExpiryPart)
  /-- START_ATTEMPT_TIMEOUT (R91): the expiry at which the start-attempt timer reaches start_timeout. -/
  | startAttemptTimeout (order : List ExpiryPart)
  /-- STOP_NEED_EXPIRY (R94): the expiry at which the stop-need timer reaches stop_delay. -/
  | stopNeedExpiry (order : List ExpiryPart)
  /-- SETTLE_TIMER_EXPIRY (R105): the expiry at which the settle timer reaches settle_delay. -/
  | settleTimerExpiry (order : List ExpiryPart)
  /-- LADDER_STEP (R111): the expiry at which the step timer reaches step_delay. -/
  | ladderStep (order : List ExpiryPart)
  /-- RESTORATION_STEP (R116): the expiry at which the restore timer reaches restore_delay. -/
  | restorationStep (order : List ExpiryPart)
  /-- CONFIRM_TIMEOUT (R101) of one group. -/
  | confirmTimeout (group : GroupNo)
  /-- TRIP_TIMEOUT (R77). -/
  | tripTimeout
  /-- STOP_PULSE_END (R79). -/
  | stopPulseEnd
  /-- LINE_IDLE (R18). -/
  | lineIdle
  /-- FRAME_START (R26). -/
  | frameStart
  /-- ARBITRATION_LOSS (R23). -/
  | arbitrationLoss
  /-- TRANSMIT_ERROR (R29). -/
  | transmitError
  /-- FRAME_RECEIVED (R32): the levels read from the start bit on (true is recessive); whether capture takes a TRIP
  ALERT's trigger before the island view and the shed unit act on it (R134). -/
  | frameReceived (line : List Bool) (captureFirst : Bool)
  /-- TIME_TAG_WRAP (R123). -/
  | timeTagWrap
  /-- READOUT_COMPLETE (R136). -/
  | readoutComplete
  /-- STORE_COMPLETION (R159). -/
  | storeCompletion
  /-- SELECT_DEASSERT (R161). -/
  | selectDeassert
  /-- READ-IDENT (R164). -/
  | readIdent (fields : List Byte)
  /-- READ-STATUS (R165). -/
  | readStatus (fields : List Byte)
  /-- STATUS_READ_CLEAR (R170): the change word byte of a READ-STATUS reply has been clocked out. -/
  | statusReadClear
  /-- READ-PEERS (R164). -/
  | readPeers (fields : List Byte)
  /-- READ-GROUPS (R164). -/
  | readGroups (fields : List Byte)
  /-- READ-CAPTURE (R166). -/
  | readCapture (fields : List Byte)
  /-- READ-CONFIG (R155). -/
  | readConfig (fields : List Byte)
  /-- ACK-CHANGES (R171). -/
  | ackChanges (fields : List Byte)
  /-- WRITE-ENABLE (R156). -/
  | writeEnable (fields : List Byte)
  /-- WRITE-CONFIG (R157). -/
  | writeConfig (fields : List Byte)
  /-- LOCK-CONFIG (R158). -/
  | lockConfig (fields : List Byte)
  /-- STAGE (R153). -/
  | stage (fields : List Byte)
  /-- HOLD (R154). -/
  | hold (fields : List Byte)
  /-- APPLY (R154). -/
  | apply (fields : List Byte)
  /-- ENTER-STANDBY (R145). -/
  | enterStandby (fields : List Byte)
  /-- RESUME (R146). -/
  | resume (fields : List Byte)
  /-- RESTART (R168). -/
  | restart (fields : List Byte)
  /-- RESTART_RESET (R168): the reset of an accepted RESTART; the strap pins as they stand at its release. -/
  | restartReset (pins : Straps)
  /-- CLEAR-TRIP (R61). -/
  | clearTrip (fields : List Byte)
  /-- FORCE-CAPTURE (R167). -/
  | forceCapture (fields : List Byte)
  /-- UNKNOWN_COMMAND (R162): a complete command whose code names no command. -/
  | unknownCommand (code : Byte) (fields : List Byte)
  /-- ATTENTION_PULSE_END (R173). -/
  | attentionPulseEnd
  /-- LINE_BUSY (R18): a dominant bit driven by another station. -/
  | lineBusy
  deriving DecidableEq, Repr

end Sys2Proof
end

