-- ==== Sys2Proof/Config.lean ====
section
/-! DEFINITION. Config.lean: the fixed times of the part, in microseconds of the station's own timebase, and the values
the manual leaves free. A free value is an opaque constant with no body: nothing can be proved of what it is. -/

namespace Sys2Proof
namespace Config

/-- Measure timer: GOOD becomes HELD at 15 ms (R6). -/
def measureHeldUs : Nat := 15000
/-- Measure timer: HELD becomes FAULT at 40 ms (R6). -/
def measureFaultUs : Nat := 40000
/-- Transit timer of a breaker, 100 ms (R10). -/
def transitUs : Nat := 100000
/-- TRIP timer, 2000 ms (R77). -/
def tripUs : Nat := 2000000
/-- Stop-pulse timer, 2000 ms (R79). -/
def stopPulseUs : Nat := 2000000
/-- Attention pulse, 10 microseconds (R173). -/
def pulseUs : Nat := 10
/-- Recessive bit times that make the line IDLE (R18). -/
def idleBits : Nat := 12
/-- The greatest count of the time tag (R123). -/
def timeTagMax : Nat := 2147483647
/-- The greatest count of the capture counter (R132). -/
def captureCounterMax : Nat := 4294967295

/-- FREE VALUE. The order in which events that fall due in one and the same microsecond are taken (spec 4.4: "Where two
events of different origin reach the same state ... the rule that owns that state gives the outcome of each order"; no
rule says which order comes about). `raceRank n i` ranks the `i`-th of the events due at the model's `n`-th free choice;
lower comes first. Log entry 3. -/
opaque raceRank : Nat → Nat → Nat

/-- FREE VALUE. The order in which the blocks work after the test point of a share-timer expiry that the timebase brings
about (R73 leaves the order of the load-share unit and the ramp-out request open; no rule orders the other blocks). Log
entry 6. -/
opaque expiryOrder : Nat → List ExpiryPart

/-- FREE VALUE. Whether STANDBY entry, at which the handed READY value falls, raises ENGINE-READY: by R12 "Each change of the
handed value raises the ENGINE-READY change flag", and its list of the changes does not name STANDBY entry. Log entry 14. -/
opaque standbyReadyRaises : Bool

end Config
end Sys2Proof
end

