-- ==== Sys2Proof/WellFormed.lean ====
section
/-! DEFINITION. WellFormed.lean: which commands a sender can form. The meanings are total: an ill-formed command is not
refused by them (log entries 7, 21). -/

namespace Sys2Proof

/-- Every part of a sample's hand-offs stands once in the order. -/
def SamplePart.all : List SamplePart := [.breakers, .tie, .ufShed, .ufTrigger, .dead, .row]

/-- Every block that works after the test point of an expiry, in the order the chapters tell them. -/
def ExpiryPart.all : List ExpiryPart := [.loadShare, .demand, .shed, .link]

/-- The list is an order of all the parts of a sample. -/
def samplePartsOk (order : List SamplePart) : Bool :=
  order.length == SamplePart.all.length && SamplePart.all.all (fun p => order.contains p)

/-- The list is an order of all the blocks of an expiry. -/
def expiryPartsOk (order : List ExpiryPart) : Bool :=
  order.length == ExpiryPart.all.length && ExpiryPart.all.all (fun p => order.contains p)

/-- A command's field bytes are as many as its two length bytes can say (R161). -/
def fieldsOk (fields : List Byte) : Bool := decide (fields.length ≤ 65535)

/-- The codes 01h to 12h name commands (R178). -/
def commandCode (code : Byte) : Bool := decide (1 ≤ code.toNat) && decide (code.toNat ≤ 18)

/-- The first level of a received frame is its start bit, dominant (R18). -/
def startsDominant (line : List Bool) : Bool := line.head? == some false

/-- Well-formedness of a command. -/
def Instr.wellFormed : Instr → Bool
  | .sampleArrival _ order => samplePartsOk order
  | .shareTimerExpiry order => expiryPartsOk order
  | .listenEnd order => expiryPartsOk order
  | .fallbackExit order => expiryPartsOk order
  | .startAttemptTimeout order => expiryPartsOk order
  | .stopNeedExpiry order => expiryPartsOk order
  | .settleTimerExpiry order => expiryPartsOk order
  | .ladderStep order => expiryPartsOk order
  | .restorationStep order => expiryPartsOk order
  | .frameReceived line _ => startsDominant line
  | .readIdent fields => fieldsOk fields
  | .readStatus fields => fieldsOk fields
  | .readPeers fields => fieldsOk fields
  | .readGroups fields => fieldsOk fields
  | .readCapture fields => fieldsOk fields
  | .readConfig fields => fieldsOk fields
  | .ackChanges fields => fieldsOk fields
  | .writeEnable fields => fieldsOk fields
  | .writeConfig fields => fieldsOk fields
  | .lockConfig fields => fieldsOk fields
  | .stage fields => fieldsOk fields
  | .hold fields => fieldsOk fields
  | .apply fields => fieldsOk fields
  | .enterStandby fields => fieldsOk fields
  | .resume fields => fieldsOk fields
  | .restart fields => fieldsOk fields
  | .clearTrip fields => fieldsOk fields
  | .forceCapture fields => fieldsOk fields
  | .unknownCommand code fields => !commandCode code && fieldsOk fields
  | .reset _ _ => true
  | .endOfInit => true
  | .measureTimerHeld => true
  | .measureTimerFault => true
  | .transitTimeout _ => true
  | .confirmTimeout _ => true
  | .tripTimeout => true
  | .stopPulseEnd => true
  | .lineIdle => true
  | .frameStart => true
  | .arbitrationLoss => true
  | .transmitError => true
  | .timeTagWrap => true
  | .readoutComplete => true
  | .storeCompletion => true
  | .selectDeassert => true
  | .statusReadClear => true
  | .restartReset _ => true
  | .attentionPulseEnd => true
  | .lineBusy => true

end Sys2Proof
end

