-- ==== Sys2Proof/Decode.lean ====
section
/-! DEFINITION. Decode.lean: the reading of a table word. spec/opcode_table.json gives no row any bits ("n_rows_with_fixed":
0, "n_rows_with_fields": 0, spec/98_reader.md): the KL-220 is a block that takes commands, events and records, and no word
of bits spells one of its rows by the table (log entry 24). The service port's own command codes (R178) are read where a
complete command is judged, in Machine/Service.lean. -/

namespace Sys2Proof

/-- The command a table word spells: no row of the table gives bits, so none does. -/
def decodeTableWord (_nbits _w : Nat) : Option Instr := none

end Sys2Proof
end

