-- ==== Sys2Proof/Machine/State.lean ====
section
/-! DEFINITION. Machine/State.lean: the station's state, block by block as spec 00_scope.md 1.5 divides it, and the state
right after reset. Levels that a rule defines from other state (AVAILABLE, the island, all-lost, the FRESH, STALE and LOST
counts, the reported share mode) are functions in the blocks' files, not fields. Timers that run in real time count
microseconds of the station's timebase since they started; `none` is a stopped timer. -/

namespace Sys2Proof
namespace Machine

/-! ### Why a step can stop -/

/-- Faults. No command of this block stops the station by a fault: the spec gives every command an effect, or says that it
has none, in every state. So the type has no constructor, and nothing raises one. -/
inductive Fault where
  deriving DecidableEq, Repr

/-- Refusals. -/
inductive Refusal where
  /-- Raised by an arm of exec whose command has no meaning yet; none is left. Safe: nothing is claimed of it. -/
  | notModelled (mnemonic : String)
  deriving DecidableEq, Repr

/-! ### Names of states and modes -/

/-- Station state (spec 8.2). -/
inductive StationState where
  | init
  | standby
  | listen
  | run
  | fallback
  | silent
  deriving DecidableEq, Repr

/-- Measure state (spec 1.4). -/
inductive MeasureState where
  | good
  | held
  | fault
  deriving DecidableEq, Repr

/-- Decoded breaker state (spec 1.5). -/
inductive Decoded where
  | unknown
  | closed
  | opened
  | transit
  | fault
  deriving DecidableEq, Repr

/-- Settled breaker state (spec 1.5). -/
inductive Settled where
  | none
  | closed
  | opened
  deriving DecidableEq, Repr

/-- Unit state of a genset station (spec 4.1). -/
inductive UnitState where
  | offline
  | starting
  | rampIn
  | online
  | rampOut
  | tripped
  deriving DecidableEq, Repr

/-- Working share mode, a tunable (R63). -/
inductive ShareMode where
  | share
  | base
  deriving DecidableEq, Repr

/-- Reported share mode (R63). -/
inductive ReportedMode where
  | share
  | base
  | droop
  deriving DecidableEq, Repr

/-- State of a load group (spec 6.1). -/
inductive GroupState where
  | connected
  | shedding
  | shed
  | shedFailed
  | opened
  | fault
  | absent
  deriving DecidableEq, Repr

/-- Cause of a SHED ALERT (spec 2.2). -/
inductive ShedCause where
  | capacity
  | ladder
  | dead
  deriving DecidableEq, Repr

/-- Cause of a capture trigger (spec 7.4). -/
inductive TriggerCause where
  | shedStep
  | tripHeard
  | uf
  | forced
  deriving DecidableEq, Repr

/-- Role of a peer entry (spec 3.1). -/
inductive PeerRole where
  | genset
  | feeder
  | unknown
  deriving DecidableEq, Repr

/-- State of a peer entry (spec 3.1). -/
inductive EntryState where
  | fresh
  | stale
  | lost
  | incompatible
  deriving DecidableEq, Repr

/-- The line monitor (R18). -/
inductive LineState where
  | idle
  | busy
  deriving DecidableEq, Repr

/-- Last transmit outcome (R29). -/
inductive TxOutcome where
  | none
  | success
  | error
  deriving DecidableEq, Repr

/-- ack_mode (R169). -/
inductive AckMode where
  | readClear
  | writeBack
  deriving DecidableEq, Repr

/-- attention_mode (spec 9.4). -/
inductive AttentionMode where
  | level
  | pulse
  deriving DecidableEq, Repr

/-- count_mode (R132). -/
inductive CountMode where
  | accepted
  | all
  deriving DecidableEq, Repr

/-- The sixteen change flags (spec 9.3), in the bit order of R178. -/
inductive ChangeFlag where
  | breaker
  | group
  | engineReady
  | unit
  | tripHeard
  | shedStep
  | restoreStep
  | recordReady
  | recordFull
  | link
  | clash
  | measure
  | storeDone
  | startFail
  | alertDrop
  | clamped
  deriving DecidableEq, Repr

/-! ### The working configuration (spec 8.4, R177) -/

/-- The ten tunables (R153). -/
structure Tunables where
  ks : Int
  kf : Int
  kq : Int
  kv : Int
  mode : ShareMode
  baseSetpoint : Int
  startPct : Int
  stopPct : Int
  restoreMargin : Int
  captureArmed : Bool
  deriving DecidableEq, Repr

/-- The staged set: at most one value for each tunable (R153). -/
structure Staged where
  ks : Option Int
  kf : Option Int
  kq : Option Int
  kv : Option Int
  mode : Option ShareMode
  baseSetpoint : Option Int
  startPct : Option Int
  stopPct : Option Int
  restoreMargin : Option Int
  captureArmed : Option Bool
  deriving DecidableEq, Repr

/-- The staged set with nothing in it. -/
def Staged.empty : Staged :=
  { ks := none, kf := none, kq := none, kv := none, mode := none, baseSetpoint := none, startPct := none,
    stopPct := none, restoreMargin := none, captureArmed := none }

/-- Structural settings and tunables, as one configuration record holds them (R152, R177). -/
structure Settings where
  role : Role
  sect : Sect
  period : Nat
  tieReporter : Bool
  fUf : Int
  hyst : Int
  nUf : Nat
  fNom : Int
  vNom : Int
  vDead : Int
  pRated : Int
  qRated : Int
  capLimit : Int
  biasLimit : Int
  vBiasLimit : Int
  nIn : Nat
  nOut : Nat
  unload : Int
  startOrder : Nat
  startDelay : Nat
  startTimeout : Nat
  stopDelay : Nat
  present : Vector Bool 8
  rank : Vector Nat 8
  confirmTime : Nat
  stepDelay : Nat
  ufCoincidence : Nat
  settleDelay : Nat
  restoreDelay : Nat
  fRs : Int
  pre : Nat
  triggerMask : BitVec 8
  countMode : CountMode
  overlapAccept : Bool
  ackMode : AckMode
  attentionMask : FlagWord
  attentionMode : AttentionMode
  tun : Tunables
  deriving DecidableEq, Repr

/-- The fault set of R143: what it names, and the lower end of its range for every other setting. -/
def Settings.faultSet (role : Role) (sect : Sect) : Settings :=
  { role := role, sect := sect, period := 1, tieReporter := false, fUf := 40000, hyst := 0, nUf := 1, fNom := 50000,
    vNom := 100, vDead := 1000, pRated := 100, qRated := 100, capLimit := 5000, biasLimit := 50, vBiasLimit := 50,
    nIn := 1, nOut := 1, unload := 0, startOrder := 1, startDelay := 1, startTimeout := 1, stopDelay := 1,
    present := Vector.replicate 8 false, rank := Vector.replicate 8 0, confirmTime := 50, stepDelay := 1,
    ufCoincidence := 0, settleDelay := 1, restoreDelay := 1, fRs := 40000, pre := 64, triggerMask := 0,
    countMode := .accepted, overlapAccept := false, ackMode := .writeBack, attentionMask := 0xFFFF,
    attentionMode := .level,
    tun := { ks := 0, kf := 0, kq := 0, kv := 0, mode := .share, baseSetpoint := 0, startPct := 5000, stopPct := 3000,
             restoreMargin := 0, captureArmed := false } }

/-! ### Measurement intake (chapter 1) -/

/-- An auxiliary pair: contact a (closed with the breaker) and contact b (open with the breaker). -/
structure AuxPair where
  a : Bool
  b : Bool
  deriving DecidableEq, Repr

/-- The content of an accepted sample record (spec 1.1); the fields of the other role's record are 0 or open. -/
structure Sample where
  p : Int
  q : Int
  f : Int
  v : Int
  loads : Vector Int 8
  setAux : AuxPair
  groupAux : Vector AuxPair 8
  tieAux : AuxPair
  ready : Bool
  deriving DecidableEq, Repr

/-- The running sums of the current share period and the period count n (R3). -/
structure PeriodSums where
  p : Int
  q : Int
  f : Int
  v : Int
  loads : Vector Int 8
  n : Nat
  deriving DecidableEq, Repr

/-- Sums restarted at zero (R4). -/
def PeriodSums.zero : PeriodSums := { p := 0, q := 0, f := 0, v := 0, loads := Vector.replicate 8 0, n := 0 }

/-- The period means last closed (R4). -/
structure Means where
  p : Int
  q : Int
  f : Int
  v : Int
  loads : Vector Int 8
  deriving DecidableEq, Repr

/-- What intake holds of one breaker: decoded state, settled state, transit timer (spec 1.5). -/
structure BreakerView where
  decoded : Decoded
  settled : Settled
  transit : Option Nat
  deriving DecidableEq, Repr

/-- A breaker after reset (R15). -/
def BreakerView.reset : BreakerView := { decoded := .unknown, settled := .none, transit := none }

/-- Measurement intake. -/
structure Intake where
  latest : Option Sample
  sums : PeriodSums
  means : Means
  measure : MeasureState
  measureTimer : Option Nat
  setBreaker : BreakerView
  groupBreakers : Vector BreakerView 8
  tieBreaker : BreakerView
  ready : Bool
  uf : Bool
  ufCount : Nat
  dead : Bool
  deadCount : Nat
  deriving DecidableEq, Repr

/-- Intake after reset and after STANDBY entry (R15, R16). -/
def Intake.reset : Intake :=
  { latest := none, sums := PeriodSums.zero,
    means := { p := 0, q := 0, f := 0, v := 0, loads := Vector.replicate 8 0 }, measure := .fault, measureTimer := none,
    setBreaker := BreakerView.reset, groupBreakers := Vector.replicate 8 BreakerView.reset,
    tieBreaker := BreakerView.reset, ready := false, uf := false, ufCount := 0, dead := false, deadCount := 0 }

/-! ### Frames and the share link controller (chapter 2) -/

/-- One group entry of a FEED-STATE body (spec 2.2). -/
structure GroupEntry where
  rank : Nat
  state : GroupState
  load : Int
  deriving DecidableEq, Repr

/-- Body of a GEN-STATE frame (spec 2.2). -/
structure GenBody where
  unit : UnitState
  mode : ReportedMode
  available : Bool
  uf : Bool
  measBad : Bool
  startOrder : Nat
  ratedKw : Int
  ratedKvar : Int
  capacity : Int
  p : Int
  q : Int
  cut : Nat
  deriving DecidableEq, Repr

/-- Body of a FEED-STATE frame (spec 2.2). -/
structure FeedBody where
  uf : Bool
  measBad : Bool
  dead : Bool
  tieReporter : Bool
  tieClosed : Bool
  cut : Nat
  groups : Vector GroupEntry 8
  deriving DecidableEq, Repr

/-- An alert with the body recorded when it was queued (R25). -/
inductive Alert where
  | trip (ratedKw : Int) (p : Int)
  | shed (cut : Nat) (cause : ShedCause)
  deriving DecidableEq, Repr

/-- The body of a frame, by class (R19, R175). -/
inductive FrameBody where
  | alert (a : Alert)
  | gen (b : GenBody)
  | feed (b : FeedBody)
  deriving DecidableEq, Repr

/-- A frame less its check and end field: source address, section, share period code, body (R19). -/
structure Frame where
  source : Address
  sect : Sect
  period : Nat
  body : FrameBody
  deriving DecidableEq, Repr

/-- A frame the station itself is sending: whether it is its alert at the head or its state frame, how many levels its
start bit and arbitration field take, and the levels it sends, stuff bits and end field included (R20, R23, R27). -/
structure Flight where
  isAlert : Bool
  arbitration : Nat
  levels : List Bool
  deriving DecidableEq, Repr

/-- The share link controller. `receiving` says that a frame is in reception (R18, R31); `flight` is the frame the
station drives now, `none` when it does not drive; `startRead` says that a dominant bit has been read since the station's
own start bit began (R18, log entry 21). -/
structure Link where
  monitor : LineState
  recessive : Nat
  receiving : Bool
  flight : Option Flight
  startRead : Bool
  statePending : Bool
  stateInFlight : Bool
  alerts : List Alert
  errors : Nat
  outcome : TxOutcome
  deriving DecidableEq, Repr

/-- The controller after reset (R36). -/
def Link.reset : Link :=
  { monitor := .busy, recessive := 0, receiving := false, flight := none, startRead := false,
    statePending := false, stateInFlight := false, alerts := [], errors := 0, outcome := .none }

/-! ### Island view (chapter 3) -/

/-- The body a peer entry keeps (spec 3.1). -/
inductive PeerBody where
  | none
  | gen (b : GenBody)
  | feed (b : FeedBody)
  deriving DecidableEq, Repr

/-- One entry of the peer table (spec 3.1). -/
structure PeerEntry where
  address : Address
  role : PeerRole
  sect : Sect
  period : Nat
  state : EntryState
  age : Nat
  body : PeerBody
  tripped : Bool
  transfer : Option Int
  heard : Bool
  deriving DecidableEq, Repr

/-- One of the island gensets of R51: own set or a peer's, as the sums saw it. -/
structure IslandGenset where
  address : Address
  own : Bool
  startOrder : Nat
  unit : UnitState
  mode : ReportedMode
  available : Bool
  tripped : Bool
  ratedKw : Int
  deriving DecidableEq, Repr

/-- The island sums and the items formed with them (R49, R50, R51). -/
structure IslandSums where
  c : Int
  l : Int
  d : Int
  lf : Option Int
  pAvg : Option Int
  qAvg : Option Int
  sharers : List Address
  coincidence : Nat
  groups : List GroupEntry
  gensets : List IslandGenset
  ownCapacity : Int
  deriving DecidableEq, Repr

/-- The island view: the peer table in address order, the own mark, the derived tie state, the sums last formed. -/
structure View where
  peers : List PeerEntry
  ownReported : Bool
  tieClosed : Bool
  sums : IslandSums
  deriving DecidableEq, Repr

/-- The island sums of R55 for given island groups and island gensets. -/
def IslandSums.initial (groups : List GroupEntry) (gensets : List IslandGenset) : IslandSums :=
  { c := 0, l := 0, d := 0, lf := none, pAvg := none, qAvg := none, sharers := [], coincidence := 0, groups := groups,
    gensets := gensets, ownCapacity := 0 }

/-! ### Load-share unit (chapter 4) -/

/-- The actuator record (R80). -/
structure ActuatorRecord where
  speedBias : Int
  voltBias : Int
  biasValid : Bool
  deriving DecidableEq, Repr

/-- The load-share unit. `actuator` is the record last sent and `actuatorSent` counts the records sent (the model's own
count, log entry 16). -/
structure LoadShare where
  unit : UnitState
  k : Nat
  p0 : Option Int
  target : Option Int
  speedBias : Int
  voltBias : Int
  biasValid : Bool
  trip : Bool
  tripTimer : Option Nat
  tripFailed : Bool
  stop : Bool
  stopTimer : Option Nat
  actuator : ActuatorRecord
  actuatorSent : Nat
  deriving DecidableEq, Repr

/-- The unit after reset (R83), before the record of INIT is sent. -/
def LoadShare.reset : LoadShare :=
  { unit := .offline, k := 0, p0 := none, target := none, speedBias := 0, voltBias := 0, biasValid := false,
    trip := false, tripTimer := none, tripFailed := false, stop := false, stopTimer := none,
    actuator := { speedBias := 0, voltBias := 0, biasValid := false }, actuatorSent := 0 }

/-! ### Generation-on-demand unit (chapter 5) -/

/-- The generation-on-demand unit. -/
structure Demand where
  startNeed : Nat
  attempt : Option Nat
  start : Bool
  lockout : Bool
  stopNeed : Nat
  deriving DecidableEq, Repr

/-- The unit after reset (R96). -/
def Demand.reset : Demand := { startNeed := 0, attempt := none, start := false, lockout := false, stopNeed := 0 }

/-! ### Shed unit (chapter 6) -/

/-- One group record's own state (spec 6.1): present and rank stand in the working configuration, the load in intake. -/
structure Group where
  state : GroupState
  remembered : Int
  output : Bool
  confirm : Option Nat
  deriving DecidableEq, Repr

/-- A group that is not present (R97). -/
def Group.absentGroup : Group := { state := .absent, remembered := 0, output := false, confirm := none }

/-- The shed unit. The settle and step timers count share periods. -/
structure Shed where
  cut : Nat
  settle : Option Nat
  step : Option Nat
  restore : Nat
  groups : Vector Group 8
  deriving DecidableEq, Repr

/-- The unit after reset (R121), before the working configuration is taken: no group is present (R98). -/
def Shed.reset : Shed :=
  { cut := 15, settle := none, step := none, restore := 0, groups := Vector.replicate 8 Group.absentGroup }

/-! ### Disturbance capture (chapter 7) -/

/-- A row as capture keeps it: its time tag, with how often the tag had wrapped, and its fields but for the offset (R126). -/
structure RawRow where
  tag : Nat
  wraps : Nat
  power : Int
  f : Int
  v : Int
  cut : Nat
  station : StationState
  measure : MeasureState
  deriving DecidableEq, Repr

/-- A row of a record, with its offset from the trigger (R126). -/
structure Row where
  offset : Int
  raw : RawRow
  deriving DecidableEq, Repr

/-- A record's header (R134). -/
structure Header where
  number : Nat
  cause : TriggerCause
  tag : Nat
  overflow : Bool
  preRows : Nat
  postRows : Nat
  overlap : Bool
  truncated : Bool
  cut : Nat
  c : Int
  l : Int
  d : Int
  address : Address
  role : Role
  deriving DecidableEq, Repr

/-- A record: header, pre-trigger rows and post-trigger rows, oldest first (spec 7.1). `wraps` is how often the time tag had
wrapped at the trigger (log entry 37). -/
structure Record where
  header : Header
  wraps : Nat
  pre : List Row
  post : List Row
  deriving DecidableEq, Repr

/-- A record slot with what it holds (spec 7.1). -/
inductive Slot where
  | free
  | armed (ring : List RawRow)
  | post (rec : Record)
  | ready (rec : Record)
  deriving DecidableEq, Repr

/-- Disturbance capture. `tagMicros` is the part of a millisecond the time tag has counted (log entry 18), `tagWraps` how often
the tag has wrapped since the entry to LISTEN (log entry 37). -/
structure Capture where
  slots : Vector Slot 8
  readyList : List SlotNo
  counter : Nat
  tag : Nat
  tagMicros : Nat
  tagWraps : Nat
  overflow : Bool
  deriving DecidableEq, Repr

/-- Capture after reset (R139). -/
def Capture.reset : Capture :=
  { slots := Vector.replicate 8 .free, readyList := [], counter := 0, tag := 0, tagMicros := 0, tagWraps := 0,
    overflow := false }

/-! ### Station control and configuration store (chapter 8) -/

/-- Store state, with the record a write is writing (R157, R158). -/
inductive StoreState where
  | idle
  | writing (record : List Byte)
  | locking
  deriving DecidableEq, Repr

/-- Station control. `pins` is the levels on the strap pins as last given, `straps` the readings sampled at the last reset
release (R141, log entry 11). CONFIG-FAULT is what the test of R142 finds, and clear in INIT before it (log entry 12). -/
structure Control where
  station : StationState
  straps : Straps
  pins : Straps
  cfg : Settings
  cfgFault : Bool
  staged : Staged
  hold : Bool
  listenCount : Nat
  fallbackCount : Nat
  shareTimer : Option Nat
  store : StoreState
  writeEnable : Bool
  stored : List Byte
  locked : Bool
  deriving DecidableEq, Repr

/-- The stored record of a part that has never been written: 80 bytes of FFh (R155). -/
def blankRecord : List Byte := List.replicate 80 0xFF

/-- Station control in INIT after a reset (R160). The stored record is not yet tested and the working configuration not yet
taken: until END_OF_INIT CONFIG-FAULT is clear and the fault set stands (DESIGN CHOICE, log entry 12). -/
def Control.reset (pins : Straps) (stored : List Byte) (locked : Bool) : Control :=
  { station := .init, straps := pins, pins := pins, cfg := Settings.faultSet pins.role pins.sect, cfgFault := false,
    staged := Staged.empty, hold := false, listenCount := 0, fallbackCount := 0, shareTimer := none, store := .idle,
    writeEnable := false, stored := stored, locked := locked }

/-! ### Service port (chapter 9) -/

/-- What the reply in progress still leads to: nothing, the clearing of R170, the end of a readout (R136), the reset of an
accepted RESTART (R168). -/
inductive ReplyKind where
  | plain
  | status
  | readout
  | restart
  deriving DecidableEq, Repr

/-- The port's place in select framing (R161, R168): waiting for a command, sending a reply, or ignoring bytes until
select is deasserted after a reset. -/
inductive PortPhase where
  | waiting
  | replying (kind : ReplyKind)
  | ignoring
  deriving DecidableEq, Repr

/-- The service port. `reply` is the reply of the last command judged, result byte first; `snapshot` is the change word of
the last READ-STATUS snapshot, `again` the raised-again marks (R169); `pulse` counts the microseconds of a running
attention pulse (R173). -/
structure Port where
  phase : PortPhase
  reply : List Byte
  changeWord : FlagWord
  snapshot : FlagWord
  again : FlagWord
  attention : Bool
  pulse : Option Nat
  deriving DecidableEq, Repr

/-- The port after reset (R174). -/
def Port.reset (phase : PortPhase) : Port :=
  { phase := phase, reply := [], changeWord := 0, snapshot := 0, again := 0, attention := false, pulse := none }

/-! ### The station -/

/-- The station: its nine blocks, the queue of the commands that wait, and the count of free choices taken (the model's
own field, log entry 3). -/
structure State where
  ctl : Control
  intake : Intake
  link : Link
  view : View
  ls : LoadShare
  demand : Demand
  shed : Shed
  cap : Capture
  port : Port
  freeIndex : Nat
  pending : List Instr
  deriving DecidableEq, Repr

/-- The own set as an island genset right after reset (R55): OFFLINE, not AVAILABLE, with no bias in force. -/
def resetGenset (straps : Straps) (cfg : Settings) : IslandGenset :=
  { address := straps.address, own := true, startOrder := cfg.startOrder, unit := .offline, mode := .droop,
    available := false, tripped := false, ratedKw := cfg.pRated }

/-- The island view after reset (R55): own groups on a feeder station, own set on a genset station. -/
def View.reset (straps : Straps) (cfg : Settings) : View :=
  { peers := [], ownReported := true, tieClosed := false,
    sums := IslandSums.initial
      (if straps.role = .feeder then List.replicate 8 { rank := 0, state := .absent, load := 0 } else [])
      (if straps.role = .genset then [resetGenset straps cfg] else []) }

/-- The strap pins of the state after power-on: all low (R141 gives no level; DESIGN CHOICE, log entry 11). -/
def resetPins : Straps := { address := 0, role := .genset, sect := .a }

/-- The machine right after reset: a part never written, its pins low, in INIT with every block in its reset state, the
actuator record of INIT sent (R80, R141, R155, R160). -/
def State.reset : State :=
  { ctl := Control.reset resetPins blankRecord false, intake := Intake.reset, link := Link.reset,
    view := View.reset resetPins (Settings.faultSet .genset .a), ls := { LoadShare.reset with actuatorSent := 1 },
    demand := Demand.reset, shed := Shed.reset, cap := Capture.reset, port := Port.reset .waiting, freeIndex := 0,
    pending := [] }

end Machine
end Sys2Proof
end

