-- ==== Sys2Proof/Machine/Operands.lean ====
section
/-! DEFINITION. Machine/Operands.lean: the operand forms of the station: exact arithmetic with its rounding (spec 4.3),
big-endian bytes and bits (chapter 10), the check of R21, sample records (R176), configuration records (R177). -/

namespace Sys2Proof
namespace Machine

/-! ### Arithmetic (spec 00_scope.md 4.3) -/

/-- Division rounded to the nearest integer, halves away from zero, for a divisor of 1 or more. -/
def roundDiv (n d : Int) : Int := if 0 ≤ n then (2 * n + d) / (2 * d) else -((2 * (-n) + d) / (2 * d))

/-- Limiting a value to a range: `lo` below it, `hi` above it. -/
def clampInt (x lo hi : Int) : Int := if x < lo then lo else if hi < x then hi else x

/-! ### Bytes, most significant first -/

/-- An unsigned number's bytes, most significant first. -/
def natBytes : Nat → Nat → List Byte
  | 0, _ => []
  | w + 1, n => natBytes w (n / 256) ++ [BitVec.ofNat 8 n]

/-- The number that bytes spell, most significant first. -/
def bytesNat (bytes : List Byte) : Nat := bytes.foldl (fun n b => n * 256 + b.toNat) 0

/-- A number read as two's complement of `bits` bits. -/
def signedNat (bits n : Nat) : Int := if n < 2 ^ (bits - 1) then (n : Int) else (n : Int) - (2 : Int) ^ bits

/-- A signed number's two's complement code of `bits` bits. -/
def signedCode (bits : Nat) (x : Int) : Nat := (x % ((2 : Int) ^ bits)).toNat

/-- A signed number's bytes, two's complement, most significant first. -/
def intBytes (w : Nat) (x : Int) : List Byte := natBytes w (signedCode (8 * w) x)

/-- The unsigned field of `len` bytes at `pos`. -/
def fieldAt (bytes : List Byte) (pos len : Nat) : Nat := bytesNat ((bytes.drop pos).take len)

/-- The signed field of `len` bytes at `pos`. -/
def signedAt (bytes : List Byte) (pos len : Nat) : Int := signedNat (8 * len) (fieldAt bytes pos len)

/-- A running timer has reached a time; a stopped one reaches none. -/
def timerDue (limit : Nat) (t : Option Nat) : Bool :=
  match t with
  | none => false
  | some n => decide (limit ≤ n)

/-- A level as a number. -/
def bit (b : Bool) : Nat := if b then 1 else 0

/-! ### Bits, most significant first (true is 1, recessive) -/

/-- An unsigned number's bits in a field of a width, most significant first. -/
def natBits : Nat → Nat → List Bool
  | 0, _ => []
  | w + 1, n => natBits w (n / 2) ++ [n % 2 == 1]

/-- The number that bits spell, most significant first. -/
def bitsNat (bits : List Bool) : Nat := bits.foldl (fun n b => 2 * n + bit b) 0

/-- A signed number's bits, two's complement. -/
def intBits (w : Nat) (x : Int) : List Bool := natBits w (signedCode w x)

/-- The bits of bytes, each most significant bit first. -/
def bytesBits (bytes : List Byte) : List Bool := bytes.flatMap (fun b => natBits 8 b.toNat)

/-- Bits packed into `w` bytes, filled with zeros after the last bit. -/
def packBits (w : Nat) (bits : List Bool) : List Byte :=
  natBytes w (bitsNat (bits ++ List.replicate (8 * w - bits.length) false))

/-! ### The 16-bit check (R21, R155) -/

/-- One bit taken into the check register: generator x^16 + x^12 + x^5 + 1. -/
def crcStep (reg : BitVec 16) (b : Bool) : BitVec 16 :=
  if reg.getLsbD 15 == b then reg <<< 1 else (reg <<< 1) ^^^ 0x1021

/-- The check over bits in the order they are sent: the register starts at all ones, no final inversion. -/
def crc16 (bits : List Bool) : BitVec 16 := bits.foldl crcStep 0xFFFF

/-- The two check bytes over a record's bytes (R177). -/
def crcBytes (bytes : List Byte) : List Byte := natBytes 2 (crc16 (bytesBits bytes)).toNat

/-! ### Sample records (R1, R176) -/

/-- Fixed length of a genset record. -/
def gensetRecordLength : Nat := 10
/-- Fixed length of a feeder record. -/
def feederRecordLength : Nat := 24

/-- The auxiliary pair in two neighbouring bits of a field, contact a lower. -/
def auxPairAt (field pos : Nat) : AuxPair := { a := field.testBit pos, b := field.testBit (pos + 1) }

/-- No contact closed. -/
def AuxPair.none : AuxPair := { a := false, b := false }

/-- The content of a genset record's bytes. -/
def gensetSample (bytes : List Byte) : Sample :=
  { p := signedAt bytes 1 2, q := signedAt bytes 3 2, f := fieldAt bytes 5 2, v := fieldAt bytes 7 2,
    loads := Vector.replicate 8 0, setAux := auxPairAt (fieldAt bytes 9 1) 0,
    groupAux := Vector.replicate 8 AuxPair.none, tieAux := AuxPair.none, ready := (fieldAt bytes 9 1).testBit 2 }

/-- The content of a feeder record's bytes. -/
def feederSample (bytes : List Byte) : Sample :=
  { p := 0, q := 0, f := fieldAt bytes 17 2, v := fieldAt bytes 19 2,
    loads := Vector.ofFn (fun g : Fin 8 => (fieldAt bytes (1 + 2 * g.val) 2 : Int)), setAux := AuxPair.none,
    groupAux := Vector.ofFn (fun g : Fin 8 => auxPairAt (fieldAt bytes 21 2) (2 * g.val)),
    tieAux := auxPairAt (fieldAt bytes 23 1) 0, ready := false }

/-- A load or voltage field lies in its range (R1). -/
def inSampleRange (x : Int) : Bool := decide (x ≤ 32767)

/-- The sample of a transfer's bytes at a station of a role, or none when the record fails a check of R1: length, role
code, range of the load and voltage fields. -/
def parseSample (role : Role) (bytes : List Byte) : Option Sample :=
  match role with
  | .genset =>
    if bytes.length = gensetRecordLength ∧ fieldAt bytes 0 1 = 1 ∧ inSampleRange (gensetSample bytes).v = true then
      some (gensetSample bytes)
    else none
  | .feeder =>
    if bytes.length = feederRecordLength ∧ fieldAt bytes 0 1 = 2 ∧ inSampleRange (feederSample bytes).v = true ∧
        (feederSample bytes).loads.toList.all inSampleRange = true then
      some (feederSample bytes)
    else none

/-! ### Configuration records (R152, R177) -/

/-- Bytes of a configuration record without its check. -/
def recordLength : Nat := 78

/-- A number lies in a range. -/
def within (x lo hi : Nat) : Bool := decide (lo ≤ x) && decide (x ≤ hi)

/-- Every field of the record lies in its range in the table of R177. -/
def recordInRange (r : List Byte) : Bool :=
  within (fieldAt r 0 1) 1 2 && within (fieldAt r 1 1) 0 1 && within (fieldAt r 2 1) 0 2 && within (fieldAt r 3 1) 0 1 &&
  within (fieldAt r 4 2) 40000 65535 && within (fieldAt r 6 2) 0 1000 &&
  decide (fieldAt r 4 2 + fieldAt r 6 2 ≤ 65535) && within (fieldAt r 8 1) 1 64 &&
  (fieldAt r 9 2 == 50000 || fieldAt r 9 2 == 60000) && within (fieldAt r 11 2) 100 15000 &&
  within (fieldAt r 13 2) 1000 8000 &&
  within (fieldAt r 15 2) 100 32000 && within (fieldAt r 17 2) 100 32000 && within (fieldAt r 19 2) 5000 10000 &&
  within (fieldAt r 21 2) 50 500 && within (fieldAt r 23 2) 50 1000 &&
  within (fieldAt r 25 2) 1 4095 && within (fieldAt r 27 2) 1 4095 && within (fieldAt r 29 2) 0 2000 &&
  within (fieldAt r 31 1) 1 15 &&
  within (fieldAt r 32 2) 1 65535 && within (fieldAt r 34 2) 1 65535 && within (fieldAt r 36 2) 1 65535 &&
  (List.range 8).all (fun g => within (fieldAt r (39 + g) 1) 0 15) &&
  within (fieldAt r 47 2) 50 1000 && within (fieldAt r 49 1) 1 255 && within (fieldAt r 50 1) 0 7 &&
  within (fieldAt r 51 1) 1 255 &&
  within (fieldAt r 52 2) 1 65535 && within (fieldAt r 54 2) 40000 65535 &&
  within (fieldAt r 56 1) 0 128 && within (fieldAt r 57 1) 0 15 && within (fieldAt r 58 1) 0 1 &&
  within (fieldAt r 59 1) 0 1 &&
  within (fieldAt r 60 1) 0 1 && within (fieldAt r 63 1) 0 1 &&
  within (fieldAt r 68 1) 0 1 && within (fieldAt r 69 2) 0 11000 && within (fieldAt r 71 2) 5000 10000 &&
  within (fieldAt r 73 2) 3000 9000 && within (fieldAt r 75 2) 0 32767 && within (fieldAt r 77 1) 0 1

/-- The record names the station tie reporter while its role is GENSET (R142, R157). -/
def gensetTieReporter (r : List Byte) : Bool := fieldAt r 0 1 == 1 && fieldAt r 3 1 == 1

/-- The role a record's code names. -/
def recordRole (r : List Byte) : Role := if fieldAt r 0 1 = 1 then .genset else .feeder

/-- The section a record's code names. -/
def recordSect (r : List Byte) : Sect := if fieldAt r 1 1 = 0 then .a else .b

/-- The check of a stored record of 80 bytes: bytes 78..79 hold the CRC over bytes 0..77 (R177). -/
def recordCrcOk (stored : List Byte) : Bool :=
  stored.length == 80 && stored.drop recordLength == crcBytes (stored.take recordLength)

/-- The settings that a record in range holds (R177). -/
def parseSettings (r : List Byte) : Settings :=
  { role := recordRole r, sect := recordSect r, period := fieldAt r 2 1, tieReporter := fieldAt r 3 1 == 1,
    fUf := fieldAt r 4 2, hyst := fieldAt r 6 2, nUf := fieldAt r 8 1, fNom := fieldAt r 9 2, vNom := fieldAt r 11 2,
    vDead := fieldAt r 13 2, pRated := fieldAt r 15 2, qRated := fieldAt r 17 2, capLimit := fieldAt r 19 2,
    biasLimit := fieldAt r 21 2, vBiasLimit := fieldAt r 23 2, nIn := fieldAt r 25 2, nOut := fieldAt r 27 2,
    unload := fieldAt r 29 2, startOrder := fieldAt r 31 1, startDelay := fieldAt r 32 2,
    startTimeout := fieldAt r 34 2, stopDelay := fieldAt r 36 2,
    present := Vector.ofFn (fun g : Fin 8 => (fieldAt r 38 1).testBit g.val),
    rank := Vector.ofFn (fun g : Fin 8 => fieldAt r (39 + g.val) 1),
    confirmTime := fieldAt r 47 2, stepDelay := fieldAt r 49 1, ufCoincidence := fieldAt r 50 1,
    settleDelay := fieldAt r 51 1, restoreDelay := fieldAt r 52 2, fRs := fieldAt r 54 2, pre := fieldAt r 56 1,
    triggerMask := BitVec.ofNat 8 (fieldAt r 57 1),
    countMode := if fieldAt r 58 1 = 1 then .all else .accepted, overlapAccept := fieldAt r 59 1 == 1,
    ackMode := if fieldAt r 60 1 = 1 then .writeBack else .readClear,
    attentionMask := BitVec.ofNat 16 (fieldAt r 61 2),
    attentionMode := if fieldAt r 63 1 = 1 then .pulse else .level,
    tun := { ks := fieldAt r 64 1, kf := fieldAt r 65 1, kq := fieldAt r 66 1, kv := fieldAt r 67 1,
             mode := if fieldAt r 68 1 = 1 then .base else .share, baseSetpoint := fieldAt r 69 2,
             startPct := fieldAt r 71 2, stopPct := fieldAt r 73 2, restoreMargin := fieldAt r 75 2,
             captureArmed := fieldAt r 77 1 == 1 } }

/-- The stored record fails the test of INIT for a station's straps (R142). -/
def recordFaulty (straps : Straps) (stored : List Byte) : Bool :=
  !recordCrcOk stored || !recordInRange stored || decide (recordRole stored ≠ straps.role) ||
  decide (recordSect stored ≠ straps.sect) || gensetTieReporter stored

/-! ### Values the rules form from the settings -/

/-- The dead-bus threshold V_dead = round(V_nom × v_dead / 10000) (spec 1.8). -/
def Settings.deadVolts (c : Settings) : Int := roundDiv (c.vNom * c.vDead) 10000

/-- The share period in microseconds: code 0 is 10 ms, code 1 is 20 ms, code 2 is 40 ms (R144). -/
def Settings.periodUs (c : Settings) : Nat := 10000 * 2 ^ c.period

/-- The confirm time in microseconds. -/
def Settings.confirmUs (c : Settings) : Nat := 1000 * c.confirmTime

end Machine
end Sys2Proof
end

