-- ==== Sys2Proof/Machine/Frames.lean ====
section
/-! DEFINITION. Machine/Frames.lean: share link frames as bits: field codes and bodies (R175), the check (R21), stuffing
(R20), and the receive path's reading of a frame (R32). A level is true when recessive (logic 1). -/

namespace Sys2Proof
namespace Machine

/-! ### Codes of R175 -/

/-- Code of a section. -/
def sectCode : Sect → Nat
  | .a => 0
  | .b => 1

/-- Code of a unit state. -/
def UnitState.code : UnitState → Nat
  | .offline => 0
  | .starting => 1
  | .rampIn => 2
  | .online => 3
  | .rampOut => 4
  | .tripped => 5

/-- The unit state a code is read as: 6 and 7 are read as TRIPPED. -/
def unitOfCode : Nat → UnitState
  | 0 => .offline
  | 1 => .starting
  | 2 => .rampIn
  | 3 => .online
  | 4 => .rampOut
  | _ => .tripped

/-- Code of a reported share mode. -/
def ReportedMode.code : ReportedMode → Nat
  | .share => 0
  | .base => 1
  | .droop => 2

/-- The share mode a code is read as: 3 is read as DROOP. -/
def modeOfCode : Nat → ReportedMode
  | 0 => .share
  | 1 => .base
  | _ => .droop

/-- Code of a group state. -/
def GroupState.code : GroupState → Nat
  | .connected => 0
  | .shedding => 1
  | .shed => 2
  | .shedFailed => 3
  | .opened => 4
  | .fault => 5
  | .absent => 6

/-- The group state a code is read as: 7 is read as FAULT. -/
def groupOfCode : Nat → GroupState
  | 0 => .connected
  | 1 => .shedding
  | 2 => .shed
  | 3 => .shedFailed
  | 4 => .opened
  | 6 => .absent
  | _ => .fault

/-- Code of a SHED ALERT's cause. -/
def ShedCause.code : ShedCause → Nat
  | .capacity => 0
  | .ladder => 1
  | .dead => 2

/-- The cause a code is read as: 3 is read as CAPACITY. -/
def causeOfCode : Nat → ShedCause
  | 1 => .ladder
  | 2 => .dead
  | _ => .capacity

/-- Class code of a frame (spec 2.2). -/
def FrameBody.classCode : FrameBody → Nat
  | .alert (.trip _ _) => 0
  | .alert (.shed _ _) => 1
  | .gen _ => 2
  | .feed _ => 3

/-- Bits of the body of each class (R175). -/
def bodyLength : Nat → Nat
  | 0 => 31
  | 1 => 6
  | 2 => 93
  | _ => 185

/-! ### Bodies (R175) -/

/-- Bits of a GEN-STATE body. -/
def GenBody.bits (b : GenBody) : List Bool :=
  natBits 3 b.unit.code ++ natBits 2 b.mode.code ++ [b.available, b.uf, b.measBad] ++ natBits 4 b.startOrder ++
  intBits 15 b.ratedKw ++ intBits 15 b.ratedKvar ++ intBits 15 b.capacity ++ intBits 16 b.p ++ intBits 16 b.q ++
  natBits 4 b.cut

/-- Bits of one group entry of a FEED-STATE body. -/
def GroupEntry.bits (e : GroupEntry) : List Bool := natBits 4 e.rank ++ natBits 3 e.state.code ++ intBits 15 e.load

/-- Bits of a FEED-STATE body. -/
def FeedBody.bits (b : FeedBody) : List Bool :=
  [b.uf, b.measBad, b.dead, b.tieReporter, b.tieClosed] ++ natBits 4 b.cut ++ b.groups.toList.flatMap GroupEntry.bits

/-- Bits of a frame's body. -/
def FrameBody.bits : FrameBody → List Bool
  | .alert (.trip rated p) => intBits 15 rated ++ intBits 16 p
  | .alert (.shed cut cause) => natBits 4 cut ++ natBits 2 cause.code
  | .gen b => b.bits
  | .feed b => b.bits

/-- The unsigned field of `len` bits at `pos`. -/
def bitsAt (bits : List Bool) (pos len : Nat) : Nat := bitsNat ((bits.drop pos).take len)

/-- One bit as a flag. -/
def flagAt (bits : List Bool) (pos : Nat) : Bool := bits.getD pos false

/-- A rating as a receiver reads it: below 100 as 100, above 32000 as 32000 (R175). -/
def readRating (n : Nat) : Int := clampInt n 100 32000

/-- A capacity as a receiver reads it: above 32000 as 32000 (R175). -/
def readCapacity (n : Nat) : Int := clampInt n 0 32000

/-- A start order as a receiver reads it: 0 as 15 (R175). -/
def readOrder (n : Nat) : Nat := if n = 0 then 15 else n

/-- A GEN-STATE body as a receiver reads it. -/
def readGenBody (b : List Bool) : GenBody :=
  { unit := unitOfCode (bitsAt b 0 3), mode := modeOfCode (bitsAt b 3 2), available := flagAt b 5, uf := flagAt b 6,
    measBad := flagAt b 7, startOrder := readOrder (bitsAt b 8 4), ratedKw := readRating (bitsAt b 12 15),
    ratedKvar := readRating (bitsAt b 27 15), capacity := readCapacity (bitsAt b 42 15),
    p := signedNat 16 (bitsAt b 57 16), q := signedNat 16 (bitsAt b 73 16), cut := bitsAt b 89 4 }

/-- A FEED-STATE body as a receiver reads it. -/
def readFeedBody (b : List Bool) : FeedBody :=
  { uf := flagAt b 0, measBad := flagAt b 1, dead := flagAt b 2, tieReporter := flagAt b 3, tieClosed := flagAt b 4,
    cut := bitsAt b 5 4,
    groups := Vector.ofFn (fun g : Fin 8 =>
      { rank := bitsAt b (9 + 22 * g.val) 4, state := groupOfCode (bitsAt b (13 + 22 * g.val) 3),
        load := (bitsAt b (16 + 22 * g.val) 15 : Int) }) }

/-- The body of a class's bits as a receiver reads it. -/
def readBody (cls : Nat) (b : List Bool) : FrameBody :=
  match cls with
  | 0 => .alert (.trip (readRating (bitsAt b 0 15)) (signedNat 16 (bitsAt b 15 16)))
  | 1 => .alert (.shed (bitsAt b 0 4) (causeOfCode (bitsAt b 4 2)))
  | 2 => .gen (readGenBody b)
  | _ => .feed (readFeedBody b)

/-! ### Building a frame (R19, R20, R21) -/

/-- Class through the last body bit: what the check is computed over. -/
def Frame.checked (f : Frame) : List Bool :=
  natBits 2 f.body.classCode ++ natBits 4 f.source.val ++ natBits 1 (sectCode f.sect) ++ natBits 2 f.period ++ f.body.bits

/-- Start bit through the last check bit, before stuffing. -/
def Frame.region (f : Frame) : List Bool := false :: (f.checked ++ natBits 16 (crc16 f.checked).toNat)

/-- Stuffing goes on after `run` bits in a row of level `last`: after six, one bit of the opposite level comes before the
next bit, and counts as the first of a new run. -/
def stuffAfter (last : Bool) (run : Nat) : List Bool → List Bool
  | [] => if run = 6 then [!last] else []
  | b :: rest =>
    if run = 6 then
      (!last) :: b :: (if b = !last then stuffAfter b 2 rest else stuffAfter b 1 rest)
    else if b = last then b :: stuffAfter b (run + 1) rest
    else b :: stuffAfter b 1 rest

/-- The stuffed region of bits that begin with the start bit. -/
def stuff : List Bool → List Bool
  | [] => []
  | b :: rest => b :: stuffAfter b 1 rest

/-- The end field: eight recessive bits (R19). -/
def endField : List Bool := List.replicate 8 true

/-- The levels a station sends for a frame. -/
def Frame.levels (f : Frame) : List Bool := stuff f.region ++ endField

/-- How many of the levels a station sends for a frame belong to the start bit and the arbitration field, the stuff bits
before its last bit included (R23). -/
def Frame.arbitration (f : Frame) : Nat := (stuff (f.region.take 6)).length + 1

/-! ### Reading a frame (R32) -/

/-- What becomes of a reception: the levels given do not reach the frame's end; the frame is dropped, with the count of
recessive bit times in a row then (R18); or the frame is valid at its last end bit. -/
inductive Reception where
  | incomplete
  | dropped (recessive : Nat)
  | valid (f : Frame)
  deriving DecidableEq, Repr

/-- The frame in an unstuffed region, start bit first, if its check agrees (R21, R32). -/
def readRegion (region : List Bool) : Reception :=
  let bits := region.drop 1
  let checked := bits.take (bits.length - 16)
  if natBits 16 (crc16 checked).toNat = bits.drop (bits.length - 16) then
    .valid { source := Fin.ofNat 16 (bitsAt checked 2 4), sect := if flagAt checked 6 then .b else .a,
             period := bitsAt checked 7 2, body := readBody (bitsAt checked 0 2) (checked.drop 9) }
  else .dropped 0

/-- The end field: `left` recessive bits still to come; a dominant one fails the length check. -/
def receiveEnd (region : List Bool) : Nat → List Bool → Reception
  | 0, _ => readRegion region
  | _ + 1, [] => .incomplete
  | left + 1, b :: rest => if b then receiveEnd region left rest else .dropped 0

/-- Bits of the stuffed region before stuffing, once the class is known: start bit, nine header bits, body, check. -/
def regionLength (region : List Bool) : Option Nat :=
  if region.length < 3 then none else some (26 + bodyLength (bitsAt region 1 2))

/-- The stuffed region: `region` holds the bits taken so far without stuff bits, `run` how many bits in a row have had
the level `last`. After six the next bit is a stuff bit: dropped when opposite, a stuff error when equal. -/
def receiveRegion (region : List Bool) (last : Bool) (run : Nat) : List Bool → Reception
  | [] => .incomplete
  | b :: rest =>
    if run = 6 then
      if b = last then .dropped (if b then 7 else 0)
      else if regionLength region = some region.length then receiveEnd region 8 rest
      else receiveRegion region b 1 rest
    else if regionLength region = some region.length then receiveEnd region 8 (b :: rest)
    else receiveRegion (region ++ [b]) b (if b = last then run + 1 else 1) rest

/-- The receive path's reading of the levels from a start bit on; levels after the frame's end are not its own. -/
def receive : List Bool → Reception
  | [] => .incomplete
  | true :: _ => .incomplete
  | false :: rest => receiveRegion [false] false 1 rest

/-- The line monitor over levels that belong to no frame in reception (R18): any dominant bit makes BUSY and zeros the
count, each recessive bit adds one, twelve make IDLE. -/
def trackLine (m : LineState × Nat) (level : Bool) : LineState × Nat :=
  if level then (if Config.idleBits ≤ m.2 + 1 then (.idle, Config.idleBits) else (m.1, m.2 + 1)) else (.busy, 0)

end Machine
end Sys2Proof
end

