-- ==== Sys2Proof/Machine/Flags.lean ====
section
/-! DEFINITION. Machine/Flags.lean: the change word (R169 to R171), the attention line (R172, R173), and the named
replacements of one block of the state, which every operation goes through. -/

namespace Sys2Proof
namespace Machine

/-! ### Replacing one block -/

/-- The state with station control replaced. -/
def State.setCtl (s : State) (x : Control) : State := { s with ctl := x }
/-- The state with measurement intake replaced. -/
def State.setIntake (s : State) (x : Intake) : State := { s with intake := x }
/-- The state with the share link controller replaced. -/
def State.setLink (s : State) (x : Link) : State := { s with link := x }
/-- The state with the island view replaced. -/
def State.setView (s : State) (x : View) : State := { s with view := x }
/-- The state with the load-share unit replaced. -/
def State.setLs (s : State) (x : LoadShare) : State := { s with ls := x }
/-- The state with the generation-on-demand unit replaced. -/
def State.setDemand (s : State) (x : Demand) : State := { s with demand := x }
/-- The state with the shed unit replaced. -/
def State.setShed (s : State) (x : Shed) : State := { s with shed := x }
/-- The state with disturbance capture replaced. -/
def State.setCap (s : State) (x : Capture) : State := { s with cap := x }
/-- The state with the service port replaced. -/
def State.setPort (s : State) (x : Port) : State := { s with port := x }

/-! ### Roles and station states -/

/-- The station is a genset station. -/
def State.isGenset (s : State) : Bool := s.ctl.straps.role == .genset
/-- The station is a feeder station. -/
def State.isFeeder (s : State) : Bool := s.ctl.straps.role == .feeder

/-- LISTEN, RUN, FALLBACK or SILENT: the states in which samples and frames are taken and the share timer runs (R2, R31,
R144). -/
def StationState.active : StationState → Bool
  | .init => false
  | .standby => false
  | .listen => true
  | .run => true
  | .fallback => true
  | .silent => true

/-- RUN, FALLBACK or SILENT: the states in which the unit state moves, alerts are adopted and triggers accepted (R56, R114,
R128). -/
def StationState.working : StationState → Bool
  | .init => false
  | .standby => false
  | .listen => false
  | .run => true
  | .fallback => true
  | .silent => true

/-- RUN or FALLBACK: the states in which the station transmits (R30). -/
def StationState.transmits : StationState → Bool
  | .init => false
  | .standby => false
  | .listen => false
  | .run => true
  | .fallback => true
  | .silent => false

/-! ### The change word -/

/-- A flag's bit in a sixteen-bit flag field (R178). -/
def ChangeFlag.bitIndex : ChangeFlag → Nat
  | .breaker => 0
  | .group => 1
  | .engineReady => 2
  | .unit => 3
  | .tripHeard => 4
  | .shedStep => 5
  | .restoreStep => 6
  | .recordReady => 7
  | .recordFull => 8
  | .link => 9
  | .clash => 10
  | .measure => 11
  | .storeDone => 12
  | .startFail => 13
  | .alertDrop => 14
  | .clamped => 15

/-- The flag field with one flag set. -/
def ChangeFlag.mask (f : ChangeFlag) : FlagWord := BitVec.ofNat 16 (2 ^ f.bitIndex)

/-- A flag stands set in a flag field. -/
def flagSet (w : FlagWord) (f : ChangeFlag) : Bool := w.getLsbD f.bitIndex

/-- A raise now is between a READ-STATUS snapshot and the reply byte that carries its change word (R169). -/
def Port.inSnapshotWindow (p : Port) : Bool := decide (p.phase = .replying .status)

/-- The attention line in LEVEL mode: asserted while an enabled flag is set (R172). -/
def attentionLevel (c : Settings) (w : FlagWord) : Bool := decide (w &&& c.attentionMask ≠ 0)

/-- A raise of a flag at the port (R169), with what it does to the attention line (R172, R173). -/
def Port.raise (c : Settings) (f : ChangeFlag) (p : Port) : Port :=
  let word := p.changeWord ||| f.mask
  let pulses := c.attentionMode = .pulse ∧ flagSet p.changeWord f = false ∧ flagSet c.attentionMask f = true
  { p with
    changeWord := word
    again := if p.inSnapshotWindow then p.again ||| f.mask else p.again
    attention :=
      match c.attentionMode with
      | .level => attentionLevel c word
      | .pulse => if pulses then true else p.attention
    pulse := if pulses then some 0 else p.pulse }

/-- The clearing of flags at the port: their raised-again marks clear with them (R169); in LEVEL mode the line falls when
no enabled flag is left (R172); in PULSE mode a clearing does not touch the line (R173). -/
def Port.clear (c : Settings) (flags : FlagWord) (p : Port) : Port :=
  let word := p.changeWord &&& ~~~flags
  { p with
    changeWord := word
    again := p.again &&& ~~~flags
    attention :=
      match c.attentionMode with
      | .level => attentionLevel c word
      | .pulse => p.attention }

/-- A block raises a change flag. -/
def raise (f : ChangeFlag) (s : State) : State := s.setPort (s.port.raise s.ctl.cfg f)

/-- A block raises a change flag when a condition holds. -/
def raiseIf (cond : Bool) (f : ChangeFlag) (s : State) : State := if cond then raise f s else s

/-- The port clears flags. -/
def clearFlags (flags : FlagWord) (s : State) : State := s.setPort (s.port.clear s.ctl.cfg flags)

end Machine
end Sys2Proof
end

