-- ==== Sys2Proof/Machine/CaptureUnit.lean ====
section
/-! DEFINITION. Machine/CaptureUnit.lean: disturbance capture's own operations (chapter 7): arming, rows, triggers, the
closing of records. -/

namespace Sys2Proof
namespace Machine

/-- The slots in slot order, with their numbers. -/
def slotNumbers : List SlotNo := [0, 1, 2, 3, 4, 5, 6, 7]

/-- A slot is ARMED or POST (R122). -/
def Slot.active : Slot → Bool
  | .free => false
  | .armed _ => true
  | .post _ => true
  | .ready _ => false

/-- A slot is FREE. -/
def Slot.isFree : Slot → Bool
  | .free => true
  | .armed _ => false
  | .post _ => false
  | .ready _ => false

/-- The active slot's number, when there is one (R122). -/
def Capture.activeSlot (c : Capture) : Option SlotNo := slotNumbers.find? (fun i => c.slots[i].active)

/-- The lowest-numbered FREE slot. -/
def Capture.freeSlot (c : Capture) : Option SlotNo := slotNumbers.find? (fun i => c.slots[i].isFree)

/-- Capture with one slot replaced. -/
def Capture.setSlot (c : Capture) (i : SlotNo) (x : Slot) : Capture := { c with slots := c.slots.set i x }

/-- Arming (R124): while capture_armed is on in LISTEN, RUN, FALLBACK or SILENT, with no slot ARMED or POST, the lowest
FREE slot becomes ARMED with an empty ring. -/
def armSlot (s : State) : State :=
  if s.ctl.cfg.tun.captureArmed = true ∧ s.ctl.station.active = true ∧ s.cap.activeSlot = none then
    match s.cap.freeSlot with
    | some i => s.setCap (s.cap.setSlot i (.armed []))
    | none => s
  else s

/-- Milliseconds since the entry to LISTEN, from the time tag and how often it has wrapped (R123). -/
def elapsedMillis (wraps tag : Nat) : Int := (wraps : Int) * 2147483648 + (tag : Int)

/-- A row's offset from a record's trigger (R126): the signed time elapsed from the trigger to the row, across the wraps that
lie between, clamped to its range. -/
def rowOffset (triggerWraps triggerTag : Nat) (r : RawRow) : Int :=
  clampInt (elapsedMillis r.wraps r.tag - elapsedMillis triggerWraps triggerTag) (-32768) 32767

/-- A record's row from a kept row. -/
def RawRow.at (triggerWraps triggerTag : Nat) (r : RawRow) : Row :=
  { offset := rowOffset triggerWraps triggerTag r, raw := r }

/-- The ring with a row joined as its newest, holding the most recent `pre` rows (R125). -/
def ringWith (pre : Nat) (ring : List RawRow) (r : RawRow) : List RawRow :=
  (ring ++ [r]).drop (ring.length + 1 - pre)

/-- A record with a post-trigger row appended (R130). -/
def Record.append (rec : Record) (r : RawRow) : Record :=
  { rec with post := rec.post ++ [r.at rec.wraps rec.header.tag],
             header := { rec.header with postRows := rec.header.postRows + 1 } }

/-- A record's number of rows. -/
def Record.rows (rec : Record) : Nat := rec.pre.length + rec.post.length

/-- A record becomes READY in its slot, at the tail of the ready list (R130, R131, R138). -/
def Capture.close (c : Capture) (i : SlotNo) (rec : Record) : Capture :=
  { c with slots := c.slots.set i (.ready rec), readyList := c.readyList ++ [i] }

/-- A row is written into the active slot, if there is one (R125, R130). -/
def writeRow (r : RawRow) (s : State) : State :=
  match s.cap.activeSlot with
  | none => s
  | some i =>
    match s.cap.slots[i] with
    | .free => s
    | .ready _ => s
    | .armed ring => s.setCap (s.cap.setSlot i (.armed (ringWith s.ctl.cfg.pre ring r)))
    | .post rec =>
      if 256 ≤ (rec.append r).rows then
        armSlot (raise .recordReady (s.setCap (s.cap.close i (rec.append r))))
      else s.setCap (s.cap.setSlot i (.post (rec.append r)))

/-- A trigger cause's bit in trigger_mask (R177). -/
def TriggerCause.bitIndex : TriggerCause → Nat
  | .shedStep => 0
  | .tripHeard => 1
  | .uf => 2
  | .forced => 3

/-- The refusals of R128. -/
inductive Refused where
  | a
  | b
  | c
  | d
  deriving DecidableEq, Repr

/-- What capture did with an offered trigger (R127, R167). -/
inductive TriggerOutcome where
  | notTaken
  | started
  | overlap
  | refused (r : Refused)
  deriving DecidableEq, Repr

/-- The capture counter counted up, stopping at its greatest value (R132). -/
def countUp (n : Nat) : Nat := if n < Config.captureCounterMax then n + 1 else n

/-- What becomes of a trigger, judged against the slots as they stand (R127, R128, R129, R131). -/
def judgeTrigger (cause : TriggerCause) (s : State) : TriggerOutcome :=
  if s.ctl.cfg.triggerMask.getLsbD cause.bitIndex = false then .notTaken
  else if s.ctl.cfg.tun.captureArmed = false ∨ s.ctl.station.working = false then .refused .a
  else
    match s.cap.activeSlot with
    | none => .refused .b
    | some i =>
      match s.cap.slots[i] with
      | .free => .refused .b
      | .ready _ => .refused .b
      | .armed ring => if ring.length < s.ctl.cfg.pre then .refused .c else .started
      | .post _ =>
        if s.ctl.cfg.overlapAccept = true then
          match s.cap.freeSlot with
          | none => .refused .b
          | some _ => .overlap
        else .refused .d

/-- The counter after an offer with its outcome (R132). -/
def countTrigger (mode : CountMode) (outcome : TriggerOutcome) (n : Nat) : Nat :=
  match outcome with
  | .notTaken => n
  | .started => countUp n
  | .overlap => countUp n
  | .refused _ =>
    match mode with
    | .all => countUp n
    | .accepted => n

/-- The header stamped at an acceptance (R134); `number` is the counter after R132. -/
def stampHeader (cause : TriggerCause) (preRows : Nat) (number : Nat) (s : State) : Header :=
  { number := number, cause := cause, tag := s.cap.tag, overflow := s.cap.overflow, preRows := preRows, postRows := 0,
    overlap := false, truncated := false, cut := s.shed.cut, c := s.view.sums.c, l := s.view.sums.l,
    d := s.view.sums.d, address := s.ctl.straps.address, role := s.ctl.straps.role }

/-- The record opened by an acceptance into an ARMED slot: the ring's rows become its pre-trigger rows (R129). -/
def openRecord (cause : TriggerCause) (ring : List RawRow) (number : Nat) (s : State) : Record :=
  { header := stampHeader cause ring.length number s, wraps := s.cap.tagWraps,
    pre := ring.map (RawRow.at s.cap.tagWraps s.cap.tag), post := [] }

/-- A record closed early by an overlap (R131). -/
def Record.overlapped (rec : Record) : Record := { rec with header := { rec.header with overlap := true } }

/-- A record closed by STANDBY entry (R138). -/
def Record.cutShort (rec : Record) : Record := { rec with header := { rec.header with truncated := true } }

/-- The slots and the ready list after an accepted trigger (R129, R131). -/
def acceptTrigger (cause : TriggerCause) (outcome : TriggerOutcome) (number : Nat) (s : State) : Capture :=
  match outcome, s.cap.activeSlot with
  | .started, some i =>
    match s.cap.slots[i] with
    | .armed ring => s.cap.setSlot i (.post (openRecord cause ring number s))
    | _ => s.cap
  | .overlap, some i =>
    match s.cap.slots[i], s.cap.freeSlot with
    | .post rec, some j => (s.cap.close i rec.overlapped).setSlot j (.post (openRecord cause [] number s))
    | _, _ => s.cap
  | _, _ => s.cap

/-- A trigger is offered to capture (R127 to R132): the counter is counted, then the trigger is refused, accepted or an
overlap; refusal (b) raises RECORD-FULL and an overlap raises RECORD-READY. -/
def offerTrigger (cause : TriggerCause) (s : State) : State :=
  let outcome := judgeTrigger cause s
  let number := countTrigger s.ctl.cfg.countMode outcome s.cap.counter
  let s1 := s.setCap { acceptTrigger cause outcome number s with counter := number }
  raiseIf (decide (outcome = .refused .b)) .recordFull (raiseIf (decide (outcome = .overlap)) .recordReady s1)

/-- The slots at STANDBY entry (R138): an ARMED slot goes FREE with its ring, a POST slot closes READY and truncated. -/
def standbyCapture (s : State) : State :=
  match s.cap.activeSlot with
  | none => s
  | some i =>
    match s.cap.slots[i] with
    | .free => s
    | .ready _ => s
    | .armed _ => s.setCap (s.cap.setSlot i .free)
    | .post rec => raise .recordReady (s.setCap (s.cap.close i rec.cutShort))

/-- capture_armed applied as off (R137): an ARMED slot goes FREE with its ring, a POST slot goes on. -/
def disarmSlot (s : State) : State :=
  match s.cap.activeSlot with
  | none => s
  | some i =>
    match s.cap.slots[i] with
    | .free => s
    | .ready _ => s
    | .armed _ => s.setCap (s.cap.setSlot i .free)
    | .post _ => s

/-- The slot at the head of the ready list has been read to its last byte: it goes FREE and leaves the list, and arming
follows (R136). -/
def freeHead (s : State) : State :=
  match s.cap.readyList with
  | [] => s
  | i :: rest => armSlot (s.setCap { s.cap.setSlot i .free with readyList := rest })

/-- The record at the head of the ready list (R135). -/
def Capture.headRecord (c : Capture) : Option Record :=
  match c.readyList with
  | [] => none
  | i :: _ =>
    match c.slots[i] with
    | .free => none
    | .armed _ => none
    | .post _ => none
    | .ready rec => some rec

end Machine
end Sys2Proof
end

