-- ==== Sys2Proof/Machine/IslandUnit.lean ====
section
/-! DEFINITION. Machine/IslandUnit.lean: the island view (chapter 3): the peer table's arrivals and aging, tie reporters and
the derived tie state, the island, the island sums; and the levels of other blocks that they read: own groups as reported
(R102), AVAILABLE (R84), the reported share mode (R63), the own capacity contribution (R47). -/

namespace Sys2Proof
namespace Machine

/-- Every group number, in group order. -/
def groupNumbers : List GroupNo := [0, 1, 2, 3, 4, 5, 6, 7]

/-! ### Levels read by the sums and the frame builder -/

/-- RAMP-IN, ONLINE or RAMP-OUT: the set is on the bus (R46, R64). -/
def UnitState.onBus : UnitState → Bool
  | .offline => false
  | .starting => false
  | .rampIn => true
  | .online => true
  | .rampOut => true
  | .tripped => false

/-- The working share mode as a reported mode. -/
def ShareMode.reported : ShareMode → ReportedMode
  | .share => .share
  | .base => .base

/-- The reported share mode: the working share mode while BIAS-VALID is asserted, DROOP otherwise (R63). -/
def State.reportedMode (s : State) : ReportedMode :=
  if s.ls.biasValid then s.ctl.cfg.tun.mode.reported else .droop

/-- The own set is AVAILABLE (R84). -/
def State.available (s : State) : Bool :=
  s.isGenset && decide (s.ls.unit = .offline) && s.intake.ready && !s.demand.lockout && s.ls.stopTimer.isNone

/-- A group is present on this station: a feeder station whose working configuration says so (R97). -/
def State.groupPresent (s : State) (g : GroupNo) : Bool := s.isFeeder && s.ctl.cfg.present[g]

/-- The load a group reports (R102): its period mean while CONNECTED or SHEDDING, its remembered load while SHED or
SHED-FAILED, 0 while OPEN, FAULT or ABSENT. -/
def State.groupLoad (s : State) (g : GroupNo) : Int :=
  match s.shed.groups[g].state with
  | .connected => s.intake.means.loads[g]
  | .shedding => s.intake.means.loads[g]
  | .shed => s.shed.groups[g].remembered
  | .shedFailed => s.shed.groups[g].remembered
  | .opened => 0
  | .fault => 0
  | .absent => 0

/-- A group's entry as FEED-STATE and the island groups carry it: rank 0 for a group not present (R27, R97). -/
def State.groupEntry (s : State) (g : GroupNo) : GroupEntry :=
  { rank := if s.groupPresent g then s.ctl.cfg.rank[g] else 0, state := s.shed.groups[g].state, load := s.groupLoad g }

/-- The own capacity contribution (R47). -/
def State.ownCapacity (s : State) : Int :=
  if s.isGenset = true ∧ s.ls.unit.onBus = true then
    if s.intake.measure = .fault then max s.intake.means.p 0
    else roundDiv (s.ctl.cfg.pRated * s.ctl.cfg.capLimit) 10000
  else 0

/-- The own load row (R46). -/
def State.ownLoad (s : State) : Int := if s.isGenset = true ∧ s.ls.unit.onBus = true then s.intake.means.p else 0

/-! ### The peer table -/

/-- The entry at an address (R37). -/
def findPeer (peers : List PeerEntry) (a : Address) : Option PeerEntry := peers.find? (fun e => e.address == a)

/-- The table with the entry at its address created or overwritten, in address order (R37). -/
def putPeer (e : PeerEntry) : List PeerEntry → List PeerEntry
  | [] => [e]
  | x :: rest =>
    if x.address = e.address then e :: rest
    else if e.address < x.address then e :: x :: rest
    else x :: putPeer e rest

/-- FRESH or STALE. -/
def EntryState.heardOf : EntryState → Bool
  | .fresh => true
  | .stale => true
  | .lost => false
  | .incompatible => false

/-- The entry state of an age (R41). -/
def ageState (age : Nat) : EntryState := if age ≤ 2 then .fresh else if age ≤ 7 then .stale else .lost

/-- One entry aged by one share period (R41); an INCOMPATIBLE entry that reaches age 8 is removed. -/
def PeerEntry.aged (e : PeerEntry) : Option PeerEntry :=
  let age := if e.age < 255 then e.age + 1 else 255
  match e.state with
  | .incompatible => if 8 ≤ age then none else some { e with age := age }
  | _ => some { e with age := age, state := ageState age }

/-- The table aged (R41). -/
def agePeers (peers : List PeerEntry) : List PeerEntry := peers.filterMap PeerEntry.aged

/-- The number of entries in a state (R53). -/
def countState (st : EntryState) (peers : List PeerEntry) : Nat := (peers.filter (fun e => decide (e.state = st))).length

/-- The all-lost level (R53). -/
def allLost (peers : List PeerEntry) : Bool := !peers.isEmpty && peers.all (fun e => decide (e.state = .lost))

/-- A GEN-STATE arrival of own period at an entry or an empty place (R38). -/
def genArrival (f : Frame) (b : GenBody) (old : Option PeerEntry) : PeerEntry :=
  let afresh : PeerEntry :=
    { address := f.source, role := .genset, sect := f.sect, period := f.period, state := .fresh, age := 0,
      body := .gen b, tripped := false, transfer := none, heard := true }
  match old with
  | none => afresh
  | some e =>
    if e.role = .genset ∧ e.state ≠ .incompatible then
      { afresh with transfer := if b.unit.onBus then none else e.transfer }
    else afresh

/-- A FEED-STATE arrival of own period at an entry or an empty place (R38). -/
def feedArrival (f : Frame) (b : FeedBody) (old : Option PeerEntry) : PeerEntry :=
  let afresh : PeerEntry :=
    { address := f.source, role := .feeder, sect := f.sect, period := f.period, state := .fresh, age := 0,
      body := .feed b, tripped := false, transfer := none, heard := false }
  match old with
  | none => afresh
  | some e =>
    if e.role = .feeder ∧ e.state ≠ .incompatible then
      { afresh with tripped := e.tripped, transfer := e.transfer, heard := e.heard }
    else afresh

/-- The body a TRIP ALERT gives an entry it creates or turns to GENSET (R40). -/
def trippedBody (ratedKw : Int) : GenBody :=
  { unit := .tripped, mode := .share, available := false, uf := false, measBad := false, startOrder := 0,
    ratedKw := ratedKw, ratedKvar := 0, capacity := 0, p := 0, q := 0, cut := 0 }

/-- A TRIP ALERT arrival of own period at an entry or an empty place (R40). -/
def tripArrival (f : Frame) (ratedKw p : Int) (old : Option PeerEntry) : PeerEntry :=
  let afresh : PeerEntry :=
    { address := f.source, role := .genset, sect := f.sect, period := f.period, state := .fresh, age := 0,
      body := .gen (trippedBody ratedKw), tripped := true, transfer := some p, heard := false }
  match old with
  | none => afresh
  | some e =>
    if e.role = .genset ∧ e.state ≠ .incompatible then { afresh with body := e.body, heard := e.heard } else afresh

/-- Heard-since-alert clears on every other genset entry (R40). -/
def clearHeard (source : Address) (peers : List PeerEntry) : List PeerEntry :=
  peers.map (fun e => if e.role = .genset ∧ e.address ≠ source then { e with heard := false } else e)

/-- A SHED ALERT arrival of own period (R40): an entry that is there and not INCOMPATIBLE is refreshed. -/
def shedArrival (f : Frame) (peers : List PeerEntry) : List PeerEntry :=
  match findPeer peers f.source with
  | none => peers
  | some e =>
    if e.state = .incompatible then peers else putPeer { e with age := 0, state := .fresh, sect := f.sect } peers

/-- The role an arrival of a differing period gives the entry (R39). -/
def incompatibleRole (b : FrameBody) (old : Option PeerEntry) : PeerRole :=
  match b with
  | .gen _ => .genset
  | .alert (.trip _ _) => .genset
  | .feed _ => .feeder
  | .alert (.shed _ _) =>
    match old with
    | none => .unknown
    | some e => e.role

/-- The entry after an arrival of a differing period (R39). -/
def incompatibleEntry (f : Frame) (old : Option PeerEntry) : PeerEntry :=
  { address := f.source, role := incompatibleRole f.body old, sect := f.sect, period := f.period,
    state := .incompatible, age := 0, body := .none, tripped := false, transfer := none, heard := false }

/-- An arrival of a differing period raises LINK unless the entry is INCOMPATIBLE already (R39). -/
def newlyIncompatible (old : Option PeerEntry) : Bool :=
  match old with
  | none => true
  | some e => decide (e.state ≠ .incompatible)

/-- The entry, if any, has role FEEDER. -/
def wasFeeder (old : Option PeerEntry) : Bool :=
  match old with
  | none => false
  | some e => decide (e.role = .feeder)

/-! ### The derived tie state and the island (R43, R44, R45) -/

/-- The own station is a reporter to itself (R43). -/
def State.ownReporter (s : State) : Bool :=
  s.isFeeder && s.ctl.cfg.tieReporter && decide (s.intake.measure ≠ .fault)

/-- The own tie reading is closed (R27, R43). -/
def State.ownTieClosed (s : State) : Bool :=
  decide (s.intake.tieBreaker.settled = .closed) && decide (s.intake.tieBreaker.decoded ≠ .fault)

/-- A peer's reading, when it is a reporter (R43). -/
def PeerEntry.tieReading (e : PeerEntry) : Option Bool :=
  if e.state.heardOf = true ∧ e.role = .feeder then
    match e.body with
    | .none => none
    | .gen _ => none
    | .feed b => if b.tieReporter then some b.tieClosed else none
  else none

/-- The readings of the reporters that the station holds (R43). -/
def State.tieReadings (s : State) : List Bool :=
  (if s.ownReporter then [s.ownTieClosed] else []) ++ s.view.peers.filterMap PeerEntry.tieReading

/-- The derived tie state: CLOSED with at least one reporter and every reporter reading closed (R44). -/
def State.derivedTie (s : State) : Bool := !s.tieReadings.isEmpty && s.tieReadings.all id

/-- A section is in the island (R45). -/
def State.inIsland (s : State) (x : Sect) : Bool := s.view.tieClosed || decide (x = s.ctl.straps.sect)

/-! ### Island sums (R46 to R51) -/

/-- A peer's load and capacity by the first row of R46 that fits; none when it is not counted. -/
def PeerEntry.contribution (e : PeerEntry) : Option (Int × Int) :=
  if e.state = .incompatible then none
  else if e.tripped = true then some (0, 0)
  else
    match e.body with
    | .none => none
    | .feed _ => none
    | .gen b =>
      if b.unit.onBus = false then some (0, 0)
      else if e.state = .lost ∨ b.measBad = true then some (b.p, max b.p 0)
      else some (b.p, b.capacity)

/-- The genset entries of the island. -/
def State.islandSets (s : State) : List PeerEntry :=
  s.view.peers.filter (fun e => decide (e.role = .genset) && s.inIsland e.sect)

/-- The sum of a list of integers. -/
def total (xs : List Int) : Int := xs.foldr (fun x t => x + t) 0

/-- The pending transfers held in the island (R48). -/
def State.transfers (s : State) : Int := total (s.islandSets.filterMap (fun e => e.transfer))

/-- A sharer's P mean, rated kW, Q mean, rated kvar, with its address (R50). -/
structure Sharer where
  address : Address
  p : Int
  pRated : Int
  q : Int
  qRated : Int
  deriving DecidableEq, Repr

/-- A peer as a sharer (R50). -/
def PeerEntry.sharer (e : PeerEntry) : Option Sharer :=
  if e.state.heardOf = true ∧ e.tripped = false then
    match e.body with
    | .none => none
    | .feed _ => none
    | .gen b =>
      if b.unit = .online ∧ b.mode = .share ∧ b.measBad = false then
        some { address := e.address, p := b.p, pRated := b.ratedKw, q := b.q, qRated := b.ratedKvar }
      else none
  else none

/-- The own set as a sharer (R50). -/
def State.ownSharer (s : State) : List Sharer :=
  if s.isGenset = true ∧ s.ls.unit = .online ∧ s.ctl.cfg.tun.mode = .share ∧ s.intake.measure ≠ .fault then
    [{ address := s.ctl.straps.address, p := s.intake.means.p, pRated := s.ctl.cfg.pRated, q := s.intake.means.q,
       qRated := s.ctl.cfg.qRated }]
  else []

/-- The sharers of the island (R50). -/
def State.sharers (s : State) : List Sharer := s.ownSharer ++ s.islandSets.filterMap PeerEntry.sharer

/-- A sharing average in bp, when there is a sharer (R50). -/
def shareAverage (means ratings : List Int) : Option Int :=
  if means.isEmpty then none else some (clampInt (roundDiv (total means * 10000) (total ratings)) (-5000) 15000)

/-- A peer's body carries UF. -/
def PeerBody.uf : PeerBody → Bool
  | .none => false
  | .gen b => b.uf
  | .feed b => b.uf

/-- The coincidence count (R51). -/
def State.coincidence (s : State) : Nat :=
  (s.view.peers.filter (fun e => e.state.heardOf && s.inIsland e.sect && e.body.uf)).length

/-- The group entries of a feeder peer of the island (R51). -/
def PeerEntry.groupEntries (e : PeerEntry) : List GroupEntry :=
  match e.body with
  | .none => []
  | .gen _ => []
  | .feed b => b.groups.toList

/-- The own groups, on a feeder station (R51). -/
def State.ownGroups (s : State) : List GroupEntry := if s.isFeeder then groupNumbers.map s.groupEntry else []

/-- The island groups (R51). -/
def State.islandGroups (s : State) : List GroupEntry :=
  s.ownGroups ++
  (s.view.peers.filter (fun e => e.state.heardOf && decide (e.role = .feeder) && s.inIsland e.sect)).flatMap
    PeerEntry.groupEntries

/-- The own set as an island genset (R51). -/
def State.ownGenset (s : State) : List IslandGenset :=
  if s.isGenset then
    [{ address := s.ctl.straps.address, own := true, startOrder := s.ctl.cfg.startOrder, unit := s.ls.unit,
       mode := s.reportedMode, available := s.available, tripped := false, ratedKw := s.ctl.cfg.pRated }]
  else []

/-- A peer as an island genset (R51). -/
def PeerEntry.islandGenset (e : PeerEntry) : Option IslandGenset :=
  if e.state.heardOf = true then
    match e.body with
    | .none => none
    | .feed _ => none
    | .gen b =>
      some { address := e.address, own := false, startOrder := b.startOrder, unit := b.unit, mode := b.mode,
             available := b.available, tripped := e.tripped, ratedKw := b.ratedKw }
  else none

/-- The island gensets (R51). -/
def State.islandGensets (s : State) : List IslandGenset :=
  s.ownGenset ++ s.islandSets.filterMap PeerEntry.islandGenset

/-- The island sums and the items formed with them, from the state as it stands (R49, R50, R51). -/
def State.computeSums (s : State) : IslandSums :=
  let rows := s.islandSets.filterMap PeerEntry.contribution
  let l := s.ownLoad + total (rows.map Prod.fst) + s.transfers
  let c := s.ownCapacity + total (rows.map Prod.snd)
  { c := c, l := l, d := l - c, lf := if 1 ≤ c then some (roundDiv (l * 10000) c) else none,
    pAvg := shareAverage (s.sharers.map Sharer.p) (s.sharers.map Sharer.pRated),
    qAvg := shareAverage (s.sharers.map Sharer.q) (s.sharers.map Sharer.qRated),
    sharers := s.sharers.map Sharer.address, coincidence := s.coincidence, groups := s.islandGroups,
    gensets := s.islandGensets, ownCapacity := s.ownCapacity }

/-- The island view forms the sums. -/
def formSums (s : State) : State := s.setView { s.view with sums := s.computeSums }

/-- The island sums of R55 for the own groups and the own set as they stand. -/
def initialSums (s : State) : IslandSums := IslandSums.initial s.ownGroups s.ownGenset

/-! ### The transfers' drop test (R48) -/

/-- An online genset entry of the island that is not tripped (R48). -/
def PeerEntry.onlineSet (e : PeerEntry) : Bool :=
  e.state.heardOf && !e.tripped &&
  match e.body with
  | .none => false
  | .feed _ => false
  | .gen b => b.unit.onBus

/-- Every online set of the island has reported since the latest TRIP ALERT arrival (R48). -/
def State.allReported (s : State) : Bool :=
  (!(s.isGenset && s.ls.unit.onBus) || s.view.ownReported) &&
  s.islandSets.all (fun e => !e.onlineSet || e.heard)

/-- Every pending transfer becomes none (R48). -/
def dropTransfers (peers : List PeerEntry) : List PeerEntry := peers.map (fun e => { e with transfer := none })

end Machine
end Sys2Proof
end

