-- ==== Sys2Proof/Machine/Ops.lean ====
section
/-! DEFINITION. Machine/Ops.lean: the operations that the commands share across the blocks: queuing an alert (R25, R30),
sending the actuator record (R80), BIAS-VALID (R64), the changes of unit state (R56 to R62, R73 to R78), the cut rank
(R98 to R106), the tie-state change (R44, R118), entering a station state (R145 to R150), and reset (R160). -/

namespace Sys2Proof
namespace Machine

/-! ### The transmit set -/

/-- A block raises an alert (R25): queued in RUN and FALLBACK, dropped with ALERT-DROP when the queue holds four, and
neither in any other state (R30). -/
def queueAlert (a : Alert) (s : State) : State :=
  if s.ctl.station.transmits = true then
    if s.link.alerts.length < 4 then s.setLink { s.link with alerts := s.link.alerts ++ [a] }
    else raise .alertDrop s
  else s

/-- The transmit set and the transmitter at entry to INIT, STANDBY, LISTEN or SILENT (R29, R30): emptied, a frame in
flight cut with no outcome taken. -/
def Link.silenced (l : Link) : Link :=
  { l with flight := none, statePending := false, stateInFlight := false, alerts := [], errors := 0, outcome := .none }

/-! ### The actuator record and BIAS-VALID -/

/-- A genset station sends an actuator record with the values standing (R80). -/
def sendActuator (s : State) : State :=
  if s.isGenset then
    s.setLs { s.ls with
      actuator := { speedBias := s.ls.speedBias, voltBias := s.ls.voltBias, biasValid := s.ls.biasValid }
      actuatorSent := s.ls.actuatorSent + 1 }
  else s

/-- The conditions under which BIAS-VALID is asserted (R64). -/
def State.biasLevel (s : State) : Bool :=
  s.isGenset && decide (s.ctl.station = .run) && s.ls.unit.onBus && decide (s.intake.measure ≠ .fault)

/-- The load-share unit with the ramp's working state cleared. -/
def LoadShare.clearRamp (u : LoadShare) : LoadShare := { u with k := 0, p0 := none, target := none }

/-- The load-share unit with both biases at 0 and BIAS-VALID deasserted. -/
def LoadShare.dropBias (u : LoadShare) : LoadShare := { u with speedBias := 0, voltBias := 0, biasValid := false }

/-- A ramp-out in progress is abandoned (R78). -/
def abandonRampOut (s : State) : State :=
  if s.ls.unit = .rampOut then
    raise .unit (s.setLs { s.ls.clearRamp with unit := .online, trip := false, tripTimer := none, tripFailed := false })
  else s

/-- BIAS-VALID follows its conditions (R64): at a fall both biases become 0 and a ramp-out is abandoned (R78). -/
def refreshBias (s : State) : State :=
  if s.ls.biasValid = true ∧ s.biasLevel = false then abandonRampOut (s.setLs s.ls.dropBias)
  else s.setLs { s.ls with biasValid := s.biasLevel }

/-- BIAS-VALID follows its conditions between share-timer expiries: at a fall an actuator record is sent at once (R64,
R80). -/
def refreshBiasNow (s : State) : State :=
  if s.ls.biasValid = true ∧ s.biasLevel = false then sendActuator (refreshBias s) else refreshBias s

/-! ### The unit state at breaker settles (R56, R57, R59, R76) -/

/-- The set comes onto the bus: RAMP-IN with k = 0; a stop pulse is cut (R56, R79). -/
def LoadShare.ontoBus (u : LoadShare) : LoadShare :=
  { u.clearRamp with unit := .rampIn, speedBias := 0, voltBias := 0, stop := false, stopTimer := none }

/-- A start attempt ends: START is released and its timer stops (R89, R90). -/
def Demand.endAttempt (d : Demand) : Demand := { d with start := false, attempt := none }

/-- The set breaker settles CLOSED (R56, R90). -/
def setSettlesClosed (s : State) : State :=
  if s.ctl.station.working = true ∧ (s.ls.unit = .offline ∨ s.ls.unit = .starting) then
    refreshBiasNow (raise .unit ((s.setLs s.ls.ontoBus).setDemand s.demand.endAttempt))
  else s

/-- Entry to RUN or SILENT from LISTEN takes up a set already on the bus (R57). -/
def takeUpSet (s : State) : State :=
  if s.isGenset = true ∧ s.ls.unit = .offline ∧ s.intake.setBreaker.settled = .closed then
    raise .unit (s.setLs s.ls.ontoBus)
  else s

/-- The load-share unit at a trip (R59). -/
def LoadShare.tripNow (u : LoadShare) : LoadShare :=
  { u.clearRamp.dropBias with unit := .tripped, stop := true, stopTimer := none, tripFailed := false, tripTimer := none }

/-- A trip (R59, R60). The record of item 3 is sent at every trip, also in FALLBACK and SILENT, where BIAS-VALID stands
deasserted and does not fall (log entry 15). -/
def tripSet (s : State) : State :=
  offerTrigger .tripHeard
    (raise .unit (sendActuator ((queueAlert (.trip s.ctl.cfg.pRated s.intake.means.p) s).setLs s.ls.tripNow)))

/-- The load-share unit when its breaker opens at the station's own TRIP (R76, R79). -/
def LoadShare.openedByTrip (u : LoadShare) : LoadShare :=
  { u.clearRamp.dropBias with unit := .offline, trip := false, tripTimer := none, stop := true, stopTimer := some 0 }

/-- The set breaker settles OPEN (R59, R76). -/
def setSettlesOpen (s : State) : State :=
  if s.ls.unit.onBus = true then
    if s.ls.trip = true then raise .unit (sendActuator (s.setLs s.ls.openedByTrip)) else tripSet s
  else s

/-! ### Load groups (R98, R99, R100) -/

/-- A group whose output asserts (R99). -/
def Group.assertOutput (g : Group) : Group :=
  match g.state with
  | .connected => { g with state := .shedding, output := true, confirm := some 0 }
  | .shedding => { g with output := true }
  | .shed => { g with output := true }
  | .shedFailed => { g with output := true }
  | .opened => { g with state := .shed, output := true }
  | .fault => { g with output := true }
  | .absent => g

/-- A group whose output releases (R99). -/
def Group.releaseOutput (g : Group) : Group :=
  match g.state with
  | .connected => { g with output := false }
  | .shedding => { g with state := .connected, output := false, confirm := none }
  | .shed => { g with output := false }
  | .shedFailed => { g with state := .connected, output := false }
  | .opened => { g with output := false }
  | .fault => { g with output := false }
  | .absent => g

/-- A group's breaker settles CLOSED, or a CLOSED reading ends its FAULT (R100). -/
def Group.readsClosed (g : Group) : Group :=
  match g.state with
  | .absent => g
  | .shedFailed => if g.output then g else { g with state := .connected, confirm := none }
  | _ => if g.output then { g with state := .shedding, confirm := some 0 }
         else { g with state := .connected, confirm := none }

/-- A group's breaker settles OPEN, or an OPEN reading ends its FAULT (R100). -/
def Group.readsOpen (g : Group) : Group :=
  match g.state with
  | .absent => g
  | _ => if g.output then { g with state := .shed, confirm := none }
         else { g with state := .opened, remembered := 0, confirm := none }

/-- A group's breaker enters FAULT (R100). -/
def Group.faults (g : Group) : Group :=
  match g.state with
  | .absent => g
  | _ => { g with state := .fault, confirm := none }

/-- The shed output's level for a cut rank (R98). -/
def State.outputAt (s : State) (cut : Nat) (g : GroupNo) : Bool :=
  s.groupPresent g && decide (1 ≤ s.ctl.cfg.rank[g]) && decide (s.ctl.cfg.rank[g] ≤ cut)

/-- The groups at a change of the cut rank: the output events of the ranks crossed (R98, R99). -/
def State.groupsAtCut (s : State) (cut : Nat) : Vector Group 8 :=
  Vector.ofFn (fun g : GroupNo =>
    if s.outputAt cut g = true ∧ s.outputAt s.shed.cut g = false then s.shed.groups[g].assertOutput
    else if s.outputAt cut g = false ∧ s.outputAt s.shed.cut g = true then s.shed.groups[g].releaseOutput
    else s.shed.groups[g])

/-! ### The cut rank (R103, R104) -/

/-- The shed unit at an increase of the cut rank to `cut`: the settle timer starts again, the restore timer becomes 0, the
outputs of the ranks crossed assert (R104, items 1 to 3). -/
def State.shedRaised (s : State) (cut : Nat) : Shed :=
  { s.shed with cut := cut, settle := some 0, restore := 0, groups := s.groupsAtCut cut }

/-- An increase of the cut rank to `cut` (R104). `cause` is the station's own decision that made it, if one did: then a
SHED ALERT is raised. -/
def increaseCut (cut : Nat) (cause : Option ShedCause) (s : State) : State :=
  let s1 := offerTrigger .shedStep (raise .shedStep (s.setShed (s.shedRaised cut)))
  let s2 := if s1.isGenset then abandonRampOut s1 else s1
  match cause with
  | none => s2
  | some c => queueAlert (.shed cut c) s2

/-- A restoration step (R104, R117): the cut rank falls by one, the outputs of the rank left release, RESTORE-STEP is
raised. -/
def restoreOne (s : State) : State :=
  raise .restoreStep
    (s.setShed { s.shed with cut := s.shed.cut - 1, restore := 0, groups := s.groupsAtCut (s.shed.cut - 1) })

/-! ### The capacity rule (R103, R106) -/

/-- A group that gives relief: CONNECTED or SHEDDING (R103). -/
def GroupEntry.gives (e : GroupEntry) : Bool := decide (e.state = .connected) || decide (e.state = .shedding)

/-- The reported loads of the relief-giving groups with rank above `lo` and not above `hi` (R103). -/
def relief (groups : List GroupEntry) (lo hi : Nat) : Int :=
  total ((groups.filter (fun e => e.gives && decide (lo < e.rank) && decide (e.rank ≤ hi))).map GroupEntry.load)

/-- R_pending, the relief already under way (R103). -/
def pendingRelief (groups : List GroupEntry) (cut : Nat) : Int := relief groups 0 cut

/-- r*: the smallest rank above `cut` whose cumulative relief covers the deficit, searched over `left` ranks from `r`; 15
when none does (R106). -/
def chooseRank (groups : List GroupEntry) (cut : Nat) (deficit : Int) : Nat → Nat → Nat
  | 0, _ => 15
  | left + 1, r => if deficit ≤ relief groups cut r then r else chooseRank groups cut deficit left (r + 1)

/-- D_eff, the deficit after the relief under way (R106). -/
def State.effectiveDeficit (s : State) : Int := s.view.sums.d - pendingRelief s.view.sums.groups s.shed.cut

/-- r* for the sums last formed (R106). -/
def State.ruleRank (s : State) : Nat :=
  chooseRank s.view.sums.groups s.shed.cut s.effectiveDeficit (15 - s.shed.cut) (s.shed.cut + 1)

/-- An evaluation of the capacity rule (R106). -/
def evaluateCapacity (s : State) : State :=
  if 0 < s.effectiveDeficit ∧ s.shed.cut < 15 then increaseCut s.ruleRank (some .capacity) s else s

/-! ### The ladder, the dead bus, adoption (R110, R112, R114) -/

/-- The ladder's step condition (R110). -/
def State.ladderHolds (s : State) : Bool :=
  s.intake.uf &&
  (decide (s.ctl.station = .fallback) || decide (s.ctl.station = .silent) ||
    decide (s.ctl.cfg.ufCoincidence ≤ s.view.sums.coincidence)) &&
  decide (s.shed.cut < 15)

/-- The step condition is tested, and a ladder step is taken if it holds (R110, R111). -/
def ladderTest (s : State) : State := if s.ladderHolds = true then increaseCut (s.shed.cut + 1) (some .ladder) s else s

/-- DEAD set reaches the shed unit of a feeder station (R112). -/
def deadEntry (s : State) : State :=
  if s.isFeeder = true ∧ s.ctl.station.active = true ∧ s.shed.cut < 15 then increaseCut 15 (some .dead) s else s

/-- A peer's SHED ALERT reaches the shed unit (R114). -/
def adopt (cut : Nat) (senderInIsland : Bool) (s : State) : State :=
  if s.ctl.station.working = true ∧ senderInIsland = true ∧ s.shed.cut < cut then increaseCut cut none s else s

/-! ### Sums formed between expiries, and the tie state (R44, R52, R78, R118) -/

/-- Sums with D > 0 abandon a ramp-out (R78). -/
def deficitAbandons (s : State) : State := if 0 < s.view.sums.d then abandonRampOut s else s

/-- The capacity rule at an immediate evaluation: stations in RUN only (R107). -/
def evaluateInRun (s : State) : State := if s.ctl.station = .run then evaluateCapacity s else s

/-- The immediate sums of a TRIP ALERT arrival, handed to the shed unit (R52, R107). -/
def immediateSums (s : State) : State := evaluateInRun (deficitAbandons (formSums s))

/-- The restore timer becomes 0 (R118). -/
def zeroRestore (s : State) : State := s.setShed { s.shed with restore := 0 }

/-- The tie state is derived afresh between expiries (R44): at a change the view takes it, the sums are formed at once and
reach the shed unit marked as a tie-state change (R118). -/
def deriveTieNow (s : State) : State :=
  if s.derivedTie = s.view.tieClosed then s
  else evaluateInRun (zeroRestore (deficitAbandons (formSums (s.setView { s.view with tieClosed := s.derivedTie }))))

/-! ### Entering a station state -/

/-- The timers that become 0 at every entry to LISTEN, FALLBACK, SILENT and STANDBY: start-need, stop-need, restore (R86,
R93, R116). -/
def zeroNeedTimers (s : State) : State :=
  zeroRestore (s.setDemand { s.demand with startNeed := 0, stopNeed := 0 })

/-- Station control takes a station state. -/
def toStation (x : StationState) (s : State) : State := s.setCtl { s.ctl with station := x }

/-- FALLBACK is entered from RUN at a share-timer expiry (R148): the record of the expiry carries the fall of BIAS-VALID
(R80). -/
def enterFallback (s : State) : State :=
  refreshBias (zeroNeedTimers (raise .link
    (s.setCtl { s.ctl with station := .fallback, fallbackCount := 0 })))

/-- Transmit failure handed to station control (R148): RUN enters FALLBACK at once; an actuator record goes out at the
entry (R80, R81). -/
def transmitFailure (s : State) : State :=
  if s.ctl.station = .run then sendActuator (enterFallback s) else s

/-- SILENT is entered on an address clash (R30, R150); from LISTEN a set already on the bus is taken up (R57); an actuator
record goes out at the entry (R80, R81). -/
def enterSilent (s : State) : State :=
  let fromListen := decide (s.ctl.station = .listen)
  let s1 := zeroNeedTimers ((s.setCtl { s.ctl with station := .silent, listenCount := 0, fallbackCount := 0 }).setLink
    s.link.silenced)
  sendActuator (refreshBias (if fromListen then takeUpSet s1 else s1))

/-- The hand-off of an address clash (R35): CLASH and SILENT in LISTEN, RUN and FALLBACK, nothing in SILENT. -/
def addressClash (s : State) : State :=
  if s.ctl.station = .listen ∨ s.ctl.station = .run ∨ s.ctl.station = .fallback then enterSilent (raise .clash s) else s

/-- RUN is entered from LISTEN at the eighth expiry (R57, R147). -/
def enterRun (s : State) : State :=
  refreshBias (takeUpSet ((s.setCtl { s.ctl with station := .run, listenCount := 0 }).setLink s.link.silenced))

/-- RUN is entered from FALLBACK at the fourth healthy expiry (R149). -/
def returnToRun (s : State) : State :=
  refreshBias (raise .link (s.setCtl { s.ctl with station := .run, fallbackCount := 0 }))

/-- The load-share unit at STANDBY entry (R82). -/
def LoadShare.standby (u : LoadShare) : LoadShare :=
  { u.clearRamp.dropBias with
    unit := if u.unit = .tripped then .tripped else .offline
    stop := if u.unit = .tripped then u.stop else false
    stopTimer := none, trip := false, tripTimer := none, tripFailed := false }

/-- The generation-on-demand unit at STANDBY entry (R95): an attempt is aborted, the lockout kept. -/
def Demand.standby (d : Demand) : Demand := { d.endAttempt with startNeed := 0, stopNeed := 0 }

/-- The shed unit at STANDBY entry (R120): the cut rank, the outputs and the group states are kept. -/
def Shed.standby (u : Shed) : Shed :=
  { u with settle := none, step := none, restore := 0,
           groups := Vector.ofFn (fun g : GroupNo => { u.groups[g] with confirm := none }) }

/-- Station control at STANDBY entry (R145). -/
def Control.standby (c : Control) : Control :=
  { c with station := .standby, staged := Staged.empty, hold := false, listenCount := 0, fallbackCount := 0,
           shareTimer := none }

/-- The fall of the handed READY value at STANDBY entry (R12): whether it raises ENGINE-READY is a free value (log entry
14). -/
def standbyReady (s : State) : State :=
  raiseIf (s.intake.ready && Config.standbyReadyRaises) .engineReady s

/-- STANDBY is entered from LISTEN, RUN, FALLBACK or SILENT: station control (R145), intake (R16), the link (R30, R31),
the load-share unit with its record (R80, R82), generation on demand (R95), the shed unit (R120), capture (R138), the
island view (R42, R55). The port keeps its change word and its line (R174). Intake's breakers take their values with neither
BREAKER nor GROUP raised (DESIGN CHOICE, log entry 38). A reception or a flight ended part way leaves the recessive count at the
value it holds, 0 since the start bit (DESIGN CHOICE, log entry 40). -/
def enterStandbyState (s : State) : State :=
  let s1 := standbyCapture (standbyReady s)
  let s2 := (((((s1.setCtl s1.ctl.standby).setIntake Intake.reset).setLink
    { s1.link.silenced with receiving := false }).setLs s1.ls.standby).setDemand s1.demand.standby).setShed
    s1.shed.standby
  sendActuator (s2.setView { peers := [], ownReported := true, tieClosed := false, sums := initialSums s2 })

/-- LISTEN is entered by RESUME (R146): the latch clears, the share timer starts, the time tag restarts and a slot arms
(R123, R124). -/
def enterListen (s : State) : State :=
  let s1 := zeroNeedTimers (s.setCtl
    { s.ctl with station := .listen, writeEnable := false, listenCount := 0, shareTimer := some 0 })
  let s2 := s1.setLink { s1.link.silenced with receiving := false }
  armSlot (s2.setCap { s2.cap with tag := 0, tagMicros := 0, tagWraps := 0, overflow := false })

/-! ### Reset (R141, R160) -/

/-- The port at a reset: a select period in progress is dropped and its bytes ignored (R168, R174). -/
def Port.atReset (p : Port) : Port :=
  Port.reset (match p.phase with
    | .waiting => .waiting
    | .replying _ => .ignoring
    | .ignoring => .ignoring)

/-- The stored record and the locked mark after a reset (R159): a cut store operation leaves them as they stood, or as the
operation would have left them. -/
def Control.afterCut (c : Control) (cut : StoreCut) : List Byte × Bool :=
  match cut, c.store with
  | .before, _ => (c.stored, c.locked)
  | .after, .idle => (c.stored, c.locked)
  | .after, .writing rec => (rec ++ crcBytes rec, c.locked)
  | .after, .locking => (c.stored, true)

/-- Power-on, the reset pin and RESTART (R141): INIT, with every block in its reset state and the straps sampled; the
record of INIT is sent on a genset station (R80). The non-volatile record and mark stay, and the queue of commands is not
the station's. -/
def resetStation (pins : Straps) (cut : StoreCut) (s : State) : State :=
  let kept := s.ctl.afterCut cut
  let ctl := Control.reset pins kept.1 kept.2
  sendActuator
    { ctl := ctl, intake := Intake.reset, link := Link.reset, view := View.reset pins ctl.cfg,
      ls := { LoadShare.reset with actuator := s.ls.actuator, actuatorSent := s.ls.actuatorSent },
      demand := Demand.reset, shed := Shed.reset, cap := Capture.reset, port := s.port.atReset,
      freeIndex := s.freeIndex, pending := s.pending }

end Machine
end Sys2Proof
end

