-- ==== Sys2Proof/Machine/Intake.lean ====
section
/-! DEFINITION. Machine/Intake.lean: the commands of measurement intake (chapter 1): SAMPLE_ARRIVAL, MEASURE_TIMER_HELD,
MEASURE_TIMER_FAULT, TRANSIT_TIMEOUT. -/

namespace Sys2Proof
namespace Machine

/-- The answer of a command. -/
abbrev Answer := Host.Outcome State Fault Refusal

/-! ### Orders given as lists -/

/-- The members of a list that are not among those seen, each once. -/
def firstsOf {α : Type} [DecidableEq α] (seen : List α) : List α → List α
  | [] => []
  | x :: rest => if x ∈ seen then firstsOf seen rest else x :: firstsOf (x :: seen) rest

/-- An order of all the parts from a list of parts: each part once, those the list leaves out at the end (log entry 7). -/
def wholeOrder {α : Type} [DecidableEq α] (all order : List α) : List α :=
  firstsOf [] order ++ all.filter (fun x => decide (x ∉ order))

/-! ### Breaker decode (R8, R9, R11) -/

/-- A sample's reading of a breaker (R8). -/
inductive Reading where
  | closed
  | opened
  | transit
  | discrepant
  deriving DecidableEq, Repr

/-- The reading of an auxiliary pair (R8). -/
def AuxPair.reading (x : AuxPair) : Reading :=
  match x.a, x.b with
  | true, false => .closed
  | false, true => .opened
  | false, false => .transit
  | true, true => .discrepant

/-- What a reading brought about at a breaker (R9, R11). -/
structure BreakerNews where
  reading : Reading
  settles : Bool
  faults : Bool
  clears : Bool
  deriving DecidableEq, Repr

/-- Something that raises the breaker's change flag (R11). -/
def BreakerNews.any (n : BreakerNews) : Bool := n.settles || n.faults || n.clears

/-- No news. -/
def BreakerNews.nothing : BreakerNews := { reading := .transit, settles := false, faults := false, clears := false }

/-- A reading of CLOSED or OPEN applied to a breaker (R9). -/
def BreakerView.settle (d : Decoded) (x : Settled) (b : BreakerView) : BreakerView :=
  { b with decoded := d, settled := x, transit := none }

/-- A reading applied to a breaker (R9). -/
def BreakerView.read (r : Reading) (b : BreakerView) : BreakerView :=
  match r with
  | .closed => b.settle .closed .closed
  | .opened => b.settle .opened .opened
  | .transit =>
    match b.decoded with
    | .closed => { b with decoded := .transit, transit := some 0 }
    | .opened => { b with decoded := .transit, transit := some 0 }
    | .unknown => { b with decoded := .transit, transit := some 0 }
    | .transit => b
    | .fault => b
  | .discrepant => { b with decoded := .fault, transit := none }

/-- What a reading brings about at a breaker (R9, R11). -/
def BreakerView.news (r : Reading) (b : BreakerView) : BreakerNews :=
  match r with
  | .closed =>
    { reading := r, settles := decide (b.settled ≠ .closed), faults := false, clears := decide (b.decoded = .fault) }
  | .opened =>
    { reading := r, settles := decide (b.settled ≠ .opened), faults := false, clears := decide (b.decoded = .fault) }
  | .transit => { reading := r, settles := false, faults := false, clears := false }
  | .discrepant => { reading := r, settles := false, faults := decide (b.decoded ≠ .fault), clears := false }

/-! ### The detectors (R13, R14) -/

/-- A flag with a running count, one sample further: while clear a sample below counts, while set a sample above does, any
other sample zeros the count; at `need` the flag turns and the count becomes 0. -/
def detect (need : Nat) (below above : Bool) (flag : Bool) (count : Nat) : Bool × Nat :=
  if (if flag then above else below) then
    if need ≤ count + 1 then (!flag, 0) else (flag, count + 1)
  else (flag, 0)

/-- The under-frequency detector at a sample (R13). -/
def detectUf (c : Settings) (f : Int) (uf : Bool) (count : Nat) : Bool × Nat :=
  detect c.nUf (decide (f < c.fUf)) (decide (c.fUf + c.hyst ≤ f)) uf count

/-- The dead-bus detector at a sample (R14): eight samples turn the flag. -/
def detectDead (c : Settings) (v : Int) (dead : Bool) (count : Nat) : Bool × Nat :=
  detect 8 (decide (v < c.deadVolts)) (decide (c.deadVolts ≤ v)) dead count

/-! ### One accepted sample (R3) -/

/-- A sample added to the running sums; with n at 255 it is not added (R3, item 3). -/
def PeriodSums.add (t : PeriodSums) (x : Sample) : PeriodSums :=
  if t.n < 255 then
    { p := t.p + x.p, q := t.q + x.q, f := t.f + x.f, v := t.v + x.v,
      loads := Vector.ofFn (fun g : GroupNo => t.loads[g] + x.loads[g]), n := t.n + 1 }
  else t

/-- Intake after an accepted sample: latest sample, sums, measure state and timer, breaker decodes, READY, detectors. -/
def State.intakeAfter (s : State) (x : Sample) : Intake :=
  let i := s.intake
  let uf := detectUf s.ctl.cfg x.f i.uf i.ufCount
  let dead := detectDead s.ctl.cfg x.v i.dead i.deadCount
  { latest := some x, sums := i.sums.add x, means := i.means, measure := .good, measureTimer := some 0,
    setBreaker := if s.isGenset then i.setBreaker.read x.setAux.reading else i.setBreaker,
    groupBreakers := Vector.ofFn (fun g : GroupNo =>
      if s.groupPresent g then i.groupBreakers[g].read x.groupAux[g].reading else i.groupBreakers[g]),
    tieBreaker :=
      if s.isFeeder && s.ctl.cfg.tieReporter then i.tieBreaker.read x.tieAux.reading else i.tieBreaker,
    ready := s.isGenset && x.ready, uf := uf.1, ufCount := uf.2,
    dead := if s.isFeeder then dead.1 else i.dead, deadCount := if s.isFeeder then dead.2 else i.deadCount }

/-- What an accepted sample hands on. -/
structure SampleNews where
  sample : Sample
  measureBefore : MeasureState
  setBreaker : BreakerNews
  groupBreakers : Vector BreakerNews 8
  tieBreaker : BreakerNews
  ufSet : Bool
  deadSet : Bool
  deriving DecidableEq, Repr

/-- The news of an accepted sample. -/
def State.sampleNews (s : State) (x : Sample) : SampleNews :=
  { sample := x, measureBefore := s.intake.measure,
    setBreaker := if s.isGenset then s.intake.setBreaker.news x.setAux.reading else BreakerNews.nothing,
    groupBreakers := Vector.ofFn (fun g : GroupNo =>
      if s.groupPresent g then s.intake.groupBreakers[g].news x.groupAux[g].reading else BreakerNews.nothing),
    tieBreaker := if s.isFeeder && s.ctl.cfg.tieReporter then s.intake.tieBreaker.news x.tieAux.reading
                  else BreakerNews.nothing,
    ufSet := !s.intake.uf && (s.intakeAfter x).uf, deadSet := !s.intake.dead && (s.intakeAfter x).dead }

/-- The set breaker's news reach the load-share unit and generation on demand (R11). -/
def handSetBreaker (n : BreakerNews) (s : State) : State :=
  let s1 := raiseIf n.any .breaker s
  if n.settles = true then
    match n.reading with
    | .closed => setSettlesClosed s1
    | .opened => setSettlesOpen s1
    | .transit => s1
    | .discrepant => s1
  else s1

/-- A group after its breaker's news (R100). -/
def Group.afterNews (n : BreakerNews) (g : Group) : Group :=
  if n.faults = true then g.faults
  else if n.settles = true ∨ n.clears = true then
    match n.reading with
    | .closed => g.readsClosed
    | .opened => g.readsOpen
    | .transit => g
    | .discrepant => g
  else g

/-- The group breakers' news reach the shed unit (R11). -/
def handGroupBreakers (ns : Vector BreakerNews 8) (s : State) : State :=
  raiseIf (groupNumbers.any (fun g => ns[g].any)) .group
    (s.setShed { s.shed with groups := Vector.ofFn (fun g : GroupNo => s.shed.groups[g].afterNews ns[g]) })

/-- The sum of the present groups' loads (R126). -/
def State.presentLoad (s : State) (x : Sample) : Int :=
  total (groupNumbers.map (fun g => if s.groupPresent g then x.loads[g] else 0))

/-- The capture row of a sample (R126). -/
def State.rowOf (s : State) (n : SampleNews) : RawRow :=
  { tag := s.cap.tag, wraps := s.cap.tagWraps,
    power := if s.isGenset then n.sample.p else s.presentLoad n.sample, f := n.sample.f, v := n.sample.v,
    cut := s.shed.cut, station := s.ctl.station, measure := n.measureBefore }

/-- UF set reaches the shed unit (R109) and the load-share unit (R78). -/
def handUfSet (s : State) : State :=
  if s.isFeeder then
    let s1 := ladderTest s
    s1.setShed { s1.shed with step := some 0 }
  else abandonRampOut s

/-- One hand-off of a sample. -/
def handPart (n : SampleNews) (part : SamplePart) (s : State) : State :=
  match part with
  | .breakers => handGroupBreakers n.groupBreakers (handSetBreaker n.setBreaker s)
  | .tie =>
    let s1 := raiseIf n.tieBreaker.any .breaker s
    if n.tieBreaker.any = true ∨ n.measureBefore = .fault then deriveTieNow s1 else s1
  | .ufShed => if n.ufSet then handUfSet s else s
  | .ufTrigger => if n.ufSet then offerTrigger .uf s else s
  | .dead => if n.deadSet then deadEntry s else s
  | .row => writeRow (s.rowOf n) s

/-- An accepted sample's own changes in intake, with MEASURE at the leaving of FAULT (R7), ENGINE-READY at a change of the
handed READY value (R12), and BIAS-VALID rising where its conditions now hold (R64). -/
def takeSample (x : Sample) (s : State) : State :=
  refreshBiasNow
    (raiseIf (decide ((s.intakeAfter x).ready ≠ s.intake.ready)) .engineReady
      (raiseIf (decide (s.intake.measure = .fault)) .measure (s.setIntake (s.intakeAfter x))))

/-- An accepted sample with its hand-offs in an order. -/
def acceptSample (x : Sample) (order : List SamplePart) (s : State) : State :=
  (wholeOrder SamplePart.all order).foldl (fun t part => handPart (s.sampleNews x) part t) (takeSample x s)

/-- SAMPLE_ARRIVAL (R1, R2, R3). -/
def execSampleArrival (bytes : List Byte) (order : List SamplePart) (s : State) : Answer :=
  if s.ctl.station.active = true then
    match parseSample s.ctl.straps.role bytes with
    | none => .next s
    | some x => .next (acceptSample x order s)
  else .next s

/-! ### Timeouts of intake -/

/-- MEASURE_TIMER_HELD (R6): with the measure timer at 15 ms GOOD becomes HELD, no flag. A sample taken first in the same
instant has restarted the timer, and the state stays GOOD. -/
def execMeasureTimerHeld (s : State) : Answer :=
  if timerDue Config.measureHeldUs s.intake.measureTimer = true ∧ s.intake.measure = .good then
    .next (s.setIntake { s.intake with measure := .held })
  else .next s

/-- Intake at entry to FAULT by the 40 ms timeout (R7, R12). -/
def Intake.measureLost (i : Intake) : Intake :=
  { i with measure := .fault, measureTimer := none, ufCount := 0, deadCount := 0, ready := false }

/-- MEASURE_TIMER_FAULT (R6, R7): with the measure timer at 40 ms, FAULT with MEASURE raised, the detector counts zeroed, READY
deasserted (R12), BIAS-VALID fallen (R64), the tie state derived afresh (R44). A sample taken first in the same instant has
restarted the timer, and FAULT is not entered. -/
def execMeasureTimerFault (s : State) : Answer :=
  if timerDue Config.measureFaultUs s.intake.measureTimer = true ∧ s.intake.measure ≠ .fault then
    .next (deriveTieNow (refreshBiasNow (raiseIf s.intake.ready .engineReady
      (raise .measure (s.setIntake s.intake.measureLost)))))
  else .next s

/-- A breaker whose transit timer has run out (R10). -/
def BreakerView.timedOut (b : BreakerView) : BreakerView := { b with decoded := .fault, transit := none }

/-- A breaker is in TRANSIT with its timer running. -/
def BreakerView.inTransit (b : BreakerView) : Bool := decide (b.decoded = .transit) && b.transit.isSome

/-- TRANSIT_TIMEOUT (R10, R11): TRANSIT becomes FAULT, the settled state is kept; a group's FAULT reaches its group (R100),
the tie breaker's the island view (R44). -/
def execTransitTimeout (breaker : Breaker) (s : State) : Answer :=
  match breaker with
  | .set =>
    if s.intake.setBreaker.inTransit then
      .next (raise .breaker (s.setIntake { s.intake with setBreaker := s.intake.setBreaker.timedOut }))
    else .next s
  | .group g =>
    if s.intake.groupBreakers[g].inTransit then
      .next (raise .group ((s.setIntake { s.intake with
          groupBreakers := s.intake.groupBreakers.set g s.intake.groupBreakers[g].timedOut }).setShed
        { s.shed with groups := s.shed.groups.set g s.shed.groups[g].faults }))
    else .next s
  | .tie =>
    if s.intake.tieBreaker.inTransit then
      .next (deriveTieNow (raise .breaker
        (s.setIntake { s.intake with tieBreaker := s.intake.tieBreaker.timedOut })))
    else .next s

end Machine
end Sys2Proof
end

