-- ==== Sys2Proof/Machine/Expiry.lean ====
section
/-! DEFINITION. Machine/Expiry.lean: the work of a share-timer expiry (R144) and the commands that are such an expiry:
SHARE_TIMER_EXPIRY, LISTEN_END, FALLBACK_EXIT, START_ATTEMPT_TIMEOUT, STOP_NEED_EXPIRY, SETTLE_TIMER_EXPIRY, LADDER_STEP,
RESTORATION_STEP. The latter name an expiry at which a count of share periods reaches its end: the command is that whole
expiry where the count does reach it, and no event where it does not (log entry 5). -/

namespace Sys2Proof
namespace Machine

/-! ### What an expiry brought about -/

/-- Counts of share periods that reach their end at an expiry, and the taking of the ramp-out request there. -/
inductive ExpiryEvent where
  | listenEnd
  | fallbackExit
  | attemptTimeout
  | stopNeed
  | rampOutTaken
  | settled
  | ladder
  | restoration
  deriving DecidableEq, Repr

/-- An expiry in progress: the state so far and what has come about. -/
structure ExpiryRun where
  state : State
  events : List ExpiryEvent
  deriving DecidableEq, Repr

/-- The run with its state changed. -/
def ExpiryRun.withState (r : ExpiryRun) (s : State) : ExpiryRun := { r with state := s }

/-- The run with its state changed and an event noted when a condition holds. -/
def ExpiryRun.note (r : ExpiryRun) (s : State) (cond : Bool) (e : ExpiryEvent) : ExpiryRun :=
  { state := s, events := if cond then r.events ++ [e] else r.events }

/-! ### Before the test point: staged set, means, island view -/

/-- The tunables with the staged set applied (R154). -/
def Staged.applyTo (g : Staged) (t : Tunables) : Tunables :=
  { ks := g.ks.getD t.ks, kf := g.kf.getD t.kf, kq := g.kq.getD t.kq, kv := g.kv.getD t.kv, mode := g.mode.getD t.mode,
    baseSetpoint := g.baseSetpoint.getD t.baseSetpoint, startPct := g.startPct.getD t.startPct,
    stopPct := g.stopPct.getD t.stopPct, restoreMargin := g.restoreMargin.getD t.restoreMargin,
    captureArmed := g.captureArmed.getD t.captureArmed }

/-- Every staged value becomes the working value of its tunable and the staged set becomes empty (R154). -/
def takeStaged (s : State) : State :=
  s.setCtl { s.ctl with cfg := { s.ctl.cfg with tun := s.ctl.staged.applyTo s.ctl.cfg.tun }, staged := Staged.empty }

/-- The staged set applied at the start of an expiry's work, with HOLD clear (R154); capture_armed acts on the slots as it
changes (R137). -/
def applyStaged (s : State) : State :=
  if s.ctl.hold = false ∧ s.ctl.staged ≠ Staged.empty then
    let before := s.ctl.cfg.tun.captureArmed
    let s1 := takeStaged s
    if before = true ∧ s1.ctl.cfg.tun.captureArmed = false then disarmSlot s1
    else if before = false ∧ s1.ctl.cfg.tun.captureArmed = true then armSlot s1
    else s1
  else s

/-- The means closed from the sums: the rounded mean of each sum over n, the old mean when n is 0 (R4). -/
def Intake.closedMeans (i : Intake) : Means :=
  if i.sums.n = 0 then i.means
  else
    { p := roundDiv i.sums.p i.sums.n, q := roundDiv i.sums.q i.sums.n, f := roundDiv i.sums.f i.sums.n,
      v := roundDiv i.sums.v i.sums.n,
      loads := Vector.ofFn (fun g : GroupNo => roundDiv i.sums.loads[g] i.sums.n) }

/-- Intake closes the period (R4). -/
def closePeriod (s : State) : State :=
  s.setIntake { s.intake with means := s.intake.closedMeans, sums := PeriodSums.zero }

/-- The island view at an expiry, before the sums: the table ages (R41), the tie state is derived (R44),
own-reported-since-alert sets (R48). -/
def viewBeforeSums (s : State) : State :=
  let s1 := s.setView { s.view with peers := agePeers s.view.peers }
  s1.setView { s1.view with tieClosed := s1.derivedTie, ownReported := true }

/-- The drop test of R48. -/
def dropTest (s : State) : State :=
  if s.allReported = true then s.setView { s.view with peers := dropTransfers s.view.peers } else s

/-- The island view's work at an expiry (R52). -/
def viewAtExpiry (s : State) : State := formSums (dropTest (viewBeforeSums s))

/-- The derivation at the expiry of `s` is a tie-state change (R52). -/
def State.tieChangesTo (before after : State) : Bool := decide (before.view.tieClosed ≠ after.view.tieClosed)

/-! ### The test point (R144, R147, R148, R149) -/

/-- The link is healthy at an expiry in FALLBACK (R149). -/
def State.linkHealthy (s : State) : Bool :=
  decide (s.link.outcome = .success) && (decide (1 ≤ countState .fresh s.view.peers) || s.view.peers.isEmpty)

/-- The state tests of an expiry. -/
def testPoint (r : ExpiryRun) : ExpiryRun :=
  let s := r.state
  match s.ctl.station with
  | .listen =>
    if 8 ≤ s.ctl.listenCount + 1 then r.note (enterRun s) true .listenEnd
    else r.withState (s.setCtl { s.ctl with listenCount := s.ctl.listenCount + 1 })
  | .run => if allLost s.view.peers = true then r.withState (enterFallback s) else r
  | .fallback =>
    if s.linkHealthy = true then
      if 4 ≤ s.ctl.fallbackCount + 1 then r.note (returnToRun s) true .fallbackExit
      else r.withState (s.setCtl { s.ctl with fallbackCount := s.ctl.fallbackCount + 1 })
    else r.withState (s.setCtl { s.ctl with fallbackCount := 0 })
  | .silent => r
  | .init => r
  | .standby => r

/-! ### The load-share unit's work (R65 to R75) -/

/-- p_own (R65). -/
def State.pOwn (s : State) : Int := clampInt (roundDiv (s.intake.means.p * 10000) s.ctl.cfg.pRated) (-5000) 15000

/-- q_own (R65). -/
def State.qOwn (s : State) : Int := clampInt (roundDiv (s.intake.means.q * 10000) s.ctl.cfg.qRated) (-5000) 15000

/-- The share error e (R66). -/
def State.shareError (s : State) : Int :=
  match s.ctl.cfg.tun.mode with
  | .base => s.ctl.cfg.tun.baseSetpoint - s.pOwn
  | .share =>
    match s.ls.unit with
    | .online => (match s.view.sums.pAvg with | some a => a - s.pOwn | none => 0)
    | _ => (match s.ls.target with | some t => t - s.pOwn | none => 0)

/-- The frequency error ef (R67). -/
def State.freqError (s : State) : Int :=
  roundDiv ((s.ctl.cfg.fNom - s.intake.means.f) * 10000) s.ctl.cfg.fNom

/-- The voltage error ev (R67). -/
def State.voltError (s : State) : Int :=
  roundDiv ((s.ctl.cfg.vNom - s.intake.means.v) * 10000) s.ctl.cfg.vNom

/-- The new speed bias (R69). -/
def State.nextSpeedBias (s : State) : Int :=
  let freq := match s.ctl.cfg.tun.mode with
    | .share => roundDiv (s.ctl.cfg.tun.kf * s.freqError) 256
    | .base => 0
  clampInt (s.ls.speedBias + roundDiv (s.ctl.cfg.tun.ks * s.shareError) 256 + freq)
    (-s.ctl.cfg.biasLimit) s.ctl.cfg.biasLimit

/-- The reactive term of R70: 0 in BASE and when q_avg has no value. -/
def State.reactiveTerm (s : State) : Int :=
  match s.ctl.cfg.tun.mode, s.view.sums.qAvg with
  | .share, some a => roundDiv (s.ctl.cfg.tun.kq * (a - s.qOwn)) 256
  | .share, none => 0
  | .base, _ => 0

/-- The new voltage bias (R70). -/
def State.nextVoltBias (s : State) : Int :=
  clampInt (s.ls.voltBias + s.reactiveTerm + roundDiv (s.ctl.cfg.tun.kv * s.voltError) 256)
    (-s.ctl.cfg.vBiasLimit) s.ctl.cfg.vBiasLimit

/-- Step 1 of R68: a RAMP-OUT unit with D > 0 is abandoned. -/
def lsAbandon (s : State) : State := deficitAbandons s

/-- The ramp-in target (R72). -/
def rampInTarget (pAvg : Option Int) (k nIn : Nat) : Option Int :=
  match pAvg with
  | none => none
  | some a => some (roundDiv (a * k) nIn)

/-- The ramp-out target (R74). -/
def rampOutTarget (p0 unload : Int) (k nOut : Nat) : Int :=
  roundDiv (p0 * nOut - (p0 - unload) * (min k nOut : Nat)) nOut

/-- Step 2 of R68: the ramp counters and targets (R72, R74). `fresh` says that the ramp-out request was taken at this expiry
before this work (R73). While TRIP is asserted the counter and the target stay (R75). -/
def lsRamp (fresh : Bool) (s : State) : State :=
  match s.ls.unit with
  | .rampIn =>
    let k := s.ls.k + 1
    s.setLs { s.ls with k := k, target := rampInTarget s.view.sums.pAvg k s.ctl.cfg.nIn }
  | .rampOut =>
    if s.ls.tripFailed = true then s.setLs { s.ls with target := some s.ctl.cfg.unload }
    else if fresh = true ∨ s.ls.trip = true then s
    else
      let k := min (s.ls.k + 1) (2 * s.ctl.cfg.nOut)
      s.setLs { s.ls with
        k := k, target := some (rampOutTarget (s.ls.p0.getD 0) s.ctl.cfg.unload k s.ctl.cfg.nOut) }
  | .offline => s
  | .starting => s
  | .online => s
  | .tripped => s

/-- Step 3 of R68: the bias updates, while BIAS-VALID is asserted (R69, R70). -/
def lsBias (s : State) : State :=
  if s.ls.biasValid then s.setLs { s.ls with speedBias := s.nextSpeedBias, voltBias := s.nextVoltBias } else s

/-- Step 4 of R68: the completion test of a ramp-in (R72). -/
def lsComplete (s : State) : State :=
  if s.ls.unit = .rampIn ∧ (s.ctl.cfg.nIn ≤ s.ls.k ∨ s.view.sums.pAvg = none) then
    raise .unit (s.setLs { s.ls with unit := .online, k := 0, target := none })
  else s

/-- TRIP is to be asserted (R75). -/
def State.tripDue (s : State) : Bool :=
  decide (s.ls.unit = .rampOut) && !s.ls.trip && !s.ls.tripFailed &&
  ((decide (s.ctl.cfg.nOut ≤ s.ls.k) && decide (s.pOwn ≤ s.ctl.cfg.unload + 200)) ||
    decide (s.ls.k = 2 * s.ctl.cfg.nOut))

/-- Step 5 of R68: the TRIP test (R75). -/
def lsTrip (s : State) : State :=
  if s.tripDue = true then s.setLs { s.ls with trip := true, tripTimer := some 0 } else s

/-- The load-share unit's work at an expiry (R68): in RUN, FALLBACK and SILENT all steps, in LISTEN step 6 alone. -/
def loadShareWork (fresh : Bool) (s : State) : State :=
  if s.isGenset then
    if s.ctl.station.working then sendActuator (lsTrip (lsComplete (lsBias (lsRamp fresh (lsAbandon s)))))
    else sendActuator s
  else s

/-! ### Generation on demand (R85 to R94) -/

/-- One start key is lower than another (R85). -/
def keyLower (o1 : Nat) (a1 : Address) (o2 : Nat) (a2 : Address) : Bool :=
  decide (o1 < o2) || (decide (o1 = o2) && decide (a1 < a2))

/-- The peers among the island gensets. -/
def State.otherSets (s : State) : List IslandGenset := s.view.sums.gensets.filter (fun g => !g.own)

/-- The available peers of the island (R85). -/
def State.availablePeers (s : State) : List IslandGenset := s.otherSets.filter (fun g => g.available && !g.tripped)

/-- The own set is chosen (R85). -/
def State.chosen (s : State) : Bool :=
  s.available &&
  s.availablePeers.all (fun g => keyLower s.ctl.cfg.startOrder s.ctl.straps.address g.startOrder g.address)

/-- The STARTING sets of the island (R87). -/
def State.startingSets (s : State) : List IslandGenset :=
  s.view.sums.gensets.filter (fun g => decide (g.unit = .starting) && !g.tripped)

/-- The start-need timer after its test (R86). -/
def State.nextStartNeed (s : State) : Nat :=
  match s.view.sums.lf with
  | none => 0
  | some x => if s.ctl.cfg.tun.startPct < x then min (s.demand.startNeed + 1) s.ctl.cfg.startDelay else 0

/-- The island has a start need (R87), the start-need timer counted. -/
def State.startNeed (s : State) : Bool :=
  decide (total (s.startingSets.map IslandGenset.ratedKw) < s.view.sums.d) ||
  (decide (s.view.sums.c = 0) && (s.available || !s.availablePeers.isEmpty) && s.startingSets.isEmpty) ||
  (decide (s.demand.startNeed = s.ctl.cfg.startDelay) && s.startingSets.isEmpty)

/-- The start request at a start decision (R58, R88): taken in OFFLINE with no stop pulse running. -/
def startRequest (s : State) : State :=
  if s.ls.unit = .offline ∧ s.ls.stopTimer = none then
    raise .unit ((s.setLs { s.ls with unit := .starting }).setDemand { s.demand with start := true, attempt := some 0 })
  else s

/-- The start-need test and the start decision, in RUN (R86, R88). -/
def startDecision (s : State) : State :=
  let s1 := s.setDemand { s.demand with startNeed := s.nextStartNeed }
  if s1.startNeed = true ∧ s1.chosen = true then startRequest s1 else s1

/-- The start-attempt timer reaches start_timeout at this expiry (R91). -/
def State.attemptEnds (s : State) : Bool :=
  match s.demand.attempt with
  | none => false
  | some n => decide (s.ctl.cfg.startTimeout ≤ n + 1)

/-- A failed start attempt (R58, R91, R92). -/
def failAttempt (s : State) : State :=
  let s1 := raise .startFail (s.setDemand { s.demand.endAttempt with lockout := true })
  if s1.ls.unit = .starting then raise .unit (s1.setLs { s1.ls with unit := .offline }) else s1

/-- The start-attempt timer at an expiry (R91). -/
def attemptWork (s : State) : State :=
  if s.attemptEnds = true then failAttempt s
  else s.setDemand { s.demand with attempt := s.demand.attempt.map (fun n => n + 1) }

/-- The stop condition (R93), with the sums formed at the expiry and the own capacity contribution formed with them (R51). -/
def State.stopCondition (s : State) : Bool :=
  let spare := s.view.sums.c - s.view.sums.ownCapacity
  decide (s.ls.unit = .online) && decide (s.reportedMode = .share) &&
  decide (2 ≤ (s.view.sums.gensets.filter (fun g => decide (g.unit = .online) && !g.tripped)).length) &&
  (s.otherSets.filter (fun g => decide (g.unit = .online) && !g.tripped && decide (g.mode = .share))).all
    (fun g => keyLower g.startOrder g.address s.ctl.cfg.startOrder s.ctl.straps.address) &&
  s.view.sums.gensets.all (fun g => decide (g.unit ≠ .rampOut)) &&
  decide (s.shed.cut = 0) && !s.intake.uf && decide (s.view.sums.coincidence = 0) &&
  decide (1 ≤ spare) && decide (roundDiv (s.view.sums.l * 10000) spare < s.ctl.cfg.tun.stopPct)

/-- The stop-need timer reaches stop_delay at this expiry (R94). -/
def State.stopDue (s : State) : Bool := s.stopCondition && decide (s.ctl.cfg.stopDelay ≤ s.demand.stopNeed + 1)

/-- The ramp-out request is taken in ONLINE with BIAS-VALID asserted (R73). -/
def State.rampOutTaken (s : State) : Bool := decide (s.ls.unit = .online) && s.ls.biasValid

/-- The ramp-out request (R73). -/
def rampOutRequest (s : State) : State :=
  if s.rampOutTaken = true then
    raise .unit (s.setLs { s.ls with
      unit := .rampOut, p0 := some s.pOwn, k := 0, target := some s.pOwn, tripFailed := false })
  else s

/-- The stop-need timer at an expiry in RUN (R93, R94). -/
def stopWork (s : State) : State :=
  if s.stopDue = true then rampOutRequest (s.setDemand { s.demand with stopNeed := 0 })
  else s.setDemand { s.demand with stopNeed := if s.stopCondition then s.demand.stopNeed + 1 else 0 }

/-- The state before the stop test of an expiry: start-attempt timer and start decision done (R88, R91). -/
def beforeStop (s : State) : State :=
  if s.ctl.station = .run then startDecision (attemptWork s) else attemptWork s

/-- Generation on demand at an expiry: the start-attempt timer in RUN, FALLBACK and SILENT, start and stop decisions in RUN
(R95). -/
def demandWork (r : ExpiryRun) : ExpiryRun :=
  let s := r.state
  if s.isGenset = true ∧ s.ctl.station.working = true then
    let s1 := beforeStop s
    let r1 := r.note s1 s.attemptEnds .attemptTimeout
    if s1.ctl.station = .run then
      ((r1.note s1 s1.stopDue .stopNeed).note s1 (s1.stopDue && s1.rampOutTaken) .rampOutTaken).withState (stopWork s1)
    else r1
  else r

/-! ### The shed unit's work (R105, R109, R116, R119) -/

/-- Step 1 of R119: the remembered load of each CONNECTED group takes the group's new load (R102). -/
def rememberLoads (s : State) : State :=
  if s.isFeeder then
    s.setShed { s.shed with groups := Vector.ofFn (fun g : GroupNo =>
      if s.shed.groups[g].state = .connected then
        { s.shed.groups[g] with remembered := s.intake.means.loads[g] }
      else s.shed.groups[g]) }
  else s

/-- The settle timer reaches settle_delay at this expiry (R105). -/
def State.settleEnds (s : State) : Bool :=
  match s.shed.settle with
  | none => false
  | some n => decide (s.ctl.cfg.settleDelay ≤ n + 1)

/-- Step 2 of R119: the settle timer counts (R105), also at the expiry right after the increase that started it: with
settle_delay 1 it stops there (DEDUCED, log entry 36). -/
def countSettle (s : State) : State :=
  s.setShed { s.shed with settle := if s.settleEnds then none else s.shed.settle.map (fun n => n + 1) }

/-- Step 3 of R119: a tie-state change zeroes the restore timer; in RUN the capacity rule is evaluated with the settle timer
stopped or at a tie-state change (R107, R118). -/
def capacityWork (tieChange : Bool) (s : State) : State :=
  let s1 := if tieChange then zeroRestore s else s
  if s1.ctl.station = .run ∧ (s1.shed.settle = none ∨ tieChange = true) then evaluateCapacity s1 else s1

/-- The step timer reaches step_delay at this expiry (R109). -/
def State.ladderDue (s : State) : Bool :=
  match s.shed.step with
  | none => false
  | some n => s.isFeeder && s.intake.uf && decide (s.ctl.cfg.stepDelay ≤ n + 1)

/-- Step 4 of R119: the step timer of a feeder station (R109, R111). -/
def ladderWork (s : State) : State :=
  match s.shed.step with
  | none => s
  | some n =>
    if s.isFeeder = false then s
    else if s.intake.uf = false then s.setShed { s.shed with step := none }
    else if s.ladderDue = true then ladderTest (s.setShed { s.shed with step := some 0 })
    else s.setShed { s.shed with step := some (n + 1) }

/-- R(c): the reported loads of the SHED island groups of a rank (R116). -/
def shedLoad (groups : List GroupEntry) (rank : Nat) : Int :=
  total ((groups.filter (fun e => decide (e.state = .shed) && decide (e.rank = rank))).map GroupEntry.load)

/-- The spare capacity (R116). -/
def State.spare (s : State) : Int := s.view.sums.c - s.view.sums.l - s.ctl.cfg.tun.restoreMargin

/-- The restore condition (R116). -/
def State.restoreHolds (s : State) : Bool :=
  decide (1 ≤ s.shed.cut) && !s.intake.uf && decide (s.view.sums.coincidence = 0) && !s.intake.dead &&
  decide (s.ctl.cfg.fRs ≤ s.intake.means.f) && decide (s.shed.settle = none) &&
  decide (shedLoad s.view.sums.groups s.shed.cut ≤ s.spare)

/-- The restore timer reaches restore_delay at this expiry (R116). -/
def State.restoreDue (s : State) : Bool :=
  decide (s.ctl.station = .run) && s.restoreHolds && decide (s.ctl.cfg.restoreDelay ≤ s.shed.restore + 1)

/-- Step 5 of R119: the restore condition, the restore timer, the restoration step (R116, R117). -/
def restoreWork (s : State) : State :=
  if s.ctl.station = .run then
    if s.restoreDue = true then restoreOne s
    else s.setShed { s.shed with restore := if s.restoreHolds then s.shed.restore + 1 else 0 }
  else s

/-- The shed unit's work at an expiry in its order (R119). -/
def shedWork (tieChange : Bool) (r : ExpiryRun) : ExpiryRun :=
  let s1 := rememberLoads r.state
  let s2 := countSettle s1
  let s3 := capacityWork tieChange s2
  let s4 := ladderWork s3
  (((r.note s2 s1.settleEnds .settled).note s4 s3.ladderDue .ladder).note s4 s4.restoreDue .restoration).withState
    (restoreWork s4)

/-! ### The share link's work (R24) and the whole expiry (R144) -/

/-- In RUN and FALLBACK the STATE slot becomes pending (R24, R30). -/
def linkWork (s : State) : State :=
  if s.ctl.station.transmits = true then s.setLink { s.link with statePending := true } else s

/-- One block's work after the test point. -/
def expiryPart (tieChange : Bool) (part : ExpiryPart) (r : ExpiryRun) : ExpiryRun :=
  match part with
  | .loadShare => r.withState (loadShareWork (decide (.rampOutTaken ∈ r.events)) r.state)
  | .demand => demandWork r
  | .shed => shedWork tieChange r
  | .link => r.withState (linkWork r.state)

/-- The state at the test point of an expiry: the share timer runs on from 0, the staged set is applied, the means are
closed, the island view has done its work (R4, R52, R144, R154). -/
def atTestPoint (s : State) : State :=
  viewAtExpiry (closePeriod (applyStaged (s.setCtl { s.ctl with shareTimer := some 0 })))

/-- The whole work of a share-timer expiry (R144). -/
def expiryRun (order : List ExpiryPart) (s : State) : ExpiryRun :=
  (wholeOrder ExpiryPart.all order).foldl
    (fun r part => expiryPart (s.tieChangesTo (atTestPoint s)) part r)
    (testPoint { state := atTestPoint s, events := [] })

/-- The share timer runs in LISTEN, RUN, FALLBACK and SILENT; elsewhere no expiry occurs (R144, R145). The command is taken as
the expiry at any count of the running timer (DESIGN CHOICE, log entry 4). -/
def shareExpiry (order : List ExpiryPart) (s : State) : State :=
  if s.ctl.station.active = true then (expiryRun order s).state else s

/-- An expiry at which a named count reaches its end; where the count does not, no such event occurs. As for every expiry, the
share timer's own count is not compared (DESIGN CHOICE, log entry 4). -/
def namedExpiry (e : ExpiryEvent) (order : List ExpiryPart) (s : State) : State :=
  if s.ctl.station.active = true ∧ e ∈ (expiryRun order s).events then (expiryRun order s).state else s

/-- SHARE_TIMER_EXPIRY (R144). -/
def execShareTimerExpiry (order : List ExpiryPart) (s : State) : Answer := .next (shareExpiry order s)

/-- LISTEN_END (R147): the expiry at which the LISTEN counter reaches 8. -/
def execListenEnd (order : List ExpiryPart) (s : State) : Answer := .next (namedExpiry .listenEnd order s)

/-- FALLBACK_EXIT (R149): the expiry at which the FALLBACK exit counter reaches 4. -/
def execFallbackExit (order : List ExpiryPart) (s : State) : Answer := .next (namedExpiry .fallbackExit order s)

/-- START_ATTEMPT_TIMEOUT (R91): the expiry at which the start-attempt timer reaches start_timeout. -/
def execStartAttemptTimeout (order : List ExpiryPart) (s : State) : Answer :=
  .next (namedExpiry .attemptTimeout order s)

/-- STOP_NEED_EXPIRY (R94): the expiry at which the stop-need timer reaches stop_delay. -/
def execStopNeedExpiry (order : List ExpiryPart) (s : State) : Answer := .next (namedExpiry .stopNeed order s)

/-- SETTLE_TIMER_EXPIRY (R105): the expiry at which the settle timer reaches settle_delay. -/
def execSettleTimerExpiry (order : List ExpiryPart) (s : State) : Answer := .next (namedExpiry .settled order s)

/-- LADDER_STEP (R111): the expiry at which the step timer reaches step_delay. -/
def execLadderStep (order : List ExpiryPart) (s : State) : Answer := .next (namedExpiry .ladder order s)

/-- RESTORATION_STEP (R116): the expiry at which the restore timer reaches restore_delay. -/
def execRestorationStep (order : List ExpiryPart) (s : State) : Answer := .next (namedExpiry .restoration order s)

end Machine
end Sys2Proof
end

