-- ==== Sys2Proof/Machine/Timers.lean ====
section
/-! DEFINITION. Machine/Timers.lean: the ends of the timers that run in real time outside intake and the share timer:
CONFIRM_TIMEOUT, TRIP_TIMEOUT, STOP_PULSE_END, TIME_TAG_WRAP, ATTENTION_PULSE_END. Each is an event only while its timer runs
(log entries 4, 9); the confirm timer and the attention pulse, which an event taken first in the same instant can start again,
end only at their times. -/

namespace Sys2Proof
namespace Machine

/-- A group whose confirm timer has run out: SHED-FAILED, its output kept (R101). -/
def Group.confirmFailed (g : Group) : Group := { g with state := .shedFailed, confirm := none }

/-- A group's confirm timer has reached confirm_time with the group still SHEDDING (R101). -/
def State.confirmDue (s : State) (g : GroupNo) : Bool :=
  decide (s.shed.groups[g].state = .shedding) && timerDue s.ctl.cfg.confirmUs s.shed.groups[g].confirm

/-- CONFIRM_TIMEOUT (R101): a release and a new assertion taken first in the same instant have started the timer again, and the
group stays SHEDDING. -/
def execConfirmTimeout (group : GroupNo) (s : State) : Answer :=
  if s.confirmDue group = true then
    .next (raise .group
      (s.setShed { s.shed with groups := s.shed.groups.set group s.shed.groups[group].confirmFailed }))
  else .next s

/-- The load-share unit when the TRIP timer runs out (R77). -/
def LoadShare.tripTimedOut (u : LoadShare) : LoadShare := { u with trip := false, tripTimer := none, tripFailed := true }

/-- TRIP_TIMEOUT (R77): TRIP is released, the trip-failed mark sets, BREAKER is raised; the unit stays in RAMP-OUT. -/
def execTripTimeout (s : State) : Answer :=
  if s.ls.trip = true ∧ s.ls.tripTimer ≠ none then .next (raise .breaker (s.setLs s.ls.tripTimedOut)) else .next s

/-- STOP_PULSE_END (R79): STOP is released and the stop-pulse timer stops. -/
def execStopPulseEnd (s : State) : Answer :=
  if s.ls.stopTimer ≠ none then .next (s.setLs { s.ls with stop := false, stopTimer := none }) else .next s

/-- TIME_TAG_WRAP (R123): the tag becomes 0 and the overflow flag sets; one more wrap has passed (log entry 37). -/
def execTimeTagWrap (s : State) : Answer :=
  if s.ctl.station.active = true then
    .next (s.setCap { s.cap with tag := 0, tagMicros := 0, tagWraps := s.cap.tagWraps + 1, overflow := true })
  else .next s

/-- ATTENTION_PULSE_END (R173): the line falls 10 µs after the raise that last started the pulse; a raise taken first in the
same instant has restarted the pulse, and the line stays. -/
def execAttentionPulseEnd (s : State) : Answer :=
  if timerDue Config.pulseUs s.port.pulse = true then
    .next (s.setPort { s.port with attention := false, pulse := none })
  else .next s

end Machine
end Sys2Proof
end

