-- ==== Sys2Proof/Machine/LinkEvents.lean ====
section
/-! DEFINITION. Machine/LinkEvents.lean: the commands of the share link (chapter 2): LINE_IDLE, LINE_BUSY, FRAME_START,
ARBITRATION_LOSS, TRANSMIT_ERROR, FRAME_RECEIVED. -/

namespace Sys2Proof
namespace Machine

/-! ### The line monitor (R18) -/

/-- LINE_IDLE (R18): twelve recessive bit times in a row have passed; a frame in reception is given up. A station that drives
a frame has no such run before its end field is over. -/
def execLineIdle (s : State) : Answer :=
  if s.link.flight = none then
    .next (s.setLink { s.link with monitor := .idle, recessive := Config.idleBits, receiving := false })
  else .next s

/-- LINE_BUSY (R18): a dominant bit of another station; while IDLE it is the start bit of a frame, which the receive path
takes in LISTEN, RUN, FALLBACK and SILENT (R31). -/
def execLineBusy (s : State) : Answer :=
  .next (s.setLink { s.link with
    monitor := .busy, recessive := 0, startRead := true,
    receiving := s.link.receiving || (decide (s.link.monitor = .idle) && s.ctl.station.active) })

/-! ### Own frames (R26, R27) -/

/-- The body of the station's own state frame, read now (R27). -/
def State.stateBody (s : State) : FrameBody :=
  match s.ctl.straps.role with
  | .genset =>
    .gen { unit := s.ls.unit, mode := s.reportedMode, available := s.available, uf := s.intake.uf,
           measBad := decide (s.intake.measure = .fault), startOrder := s.ctl.cfg.startOrder,
           ratedKw := s.ctl.cfg.pRated, ratedKvar := s.ctl.cfg.qRated, capacity := clampInt s.ownCapacity 0 32000,
           p := s.intake.means.p, q := s.intake.means.q, cut := s.shed.cut }
  | .feeder =>
    .feed { uf := s.intake.uf, measBad := decide (s.intake.measure = .fault), dead := s.intake.dead,
            tieReporter := s.ctl.cfg.tieReporter, tieClosed := s.ctl.cfg.tieReporter && s.ownTieClosed,
            cut := s.shed.cut, groups := Vector.ofFn s.groupEntry }

/-- A frame of the station's own with a body (R19). -/
def State.ownFrame (s : State) (body : FrameBody) : Frame :=
  { source := s.ctl.straps.address, sect := s.ctl.straps.sect, period := s.ctl.cfg.period, body := body }

/-- The frame the station offers now, and whether it is an alert: the alert at the head, else the state frame while the
STATE slot is pending, else none (R26). -/
def State.offer (s : State) : Option (Bool × Frame) :=
  match s.link.alerts with
  | a :: _ => some (true, s.ownFrame (.alert a))
  | [] => if s.link.statePending then some (false, s.ownFrame s.stateBody) else none

/-- The controller as it begins a frame: the start bit makes the line BUSY as it is read dominant, and a TRANSMIT_ERROR takes
that back where it is not (R18, log entry 21); a state frame moves the STATE slot from pending to in flight (R24). -/
def Link.begin (l : Link) (isAlert : Bool) (f : Frame) : Link :=
  { l with
    monitor := .busy, recessive := 0, receiving := true,
    flight := some { isAlert := isAlert, arbitration := f.arbitration, levels := f.levels },
    startRead := false, statePending := isAlert && l.statePending, stateInFlight := !isAlert || l.stateInFlight }

/-- FRAME_START (R22, R26, R27): in RUN or FALLBACK, with the line IDLE and a frame to offer. -/
def execFrameStart (s : State) : Answer :=
  if s.ctl.station.transmits = true ∧ s.link.monitor = .idle ∧ s.link.flight = none then
    match s.offer with
    | some x => .next (s.setLink (s.link.begin x.1 x.2))
    | none => .next s
  else .next s

/-! ### Outcomes (R23, R28, R29) -/

/-- Lost arbitration (R23, R28): the alert stays at the head; a state frame is pending again. -/
def loseFrame (fl : Flight) (s : State) : State :=
  s.setLink { s.link with
    flight := none, statePending := s.link.statePending || !fl.isAlert,
    stateInFlight := s.link.stateInFlight && fl.isAlert }

/-- What ends a frame by error or success takes it out of the transmit set: the alert leaves the head; a state frame's
in-flight mark clears, its pending mark stands (R28). -/
def Link.finish (l : Link) (fl : Flight) : Link :=
  { l with
    flight := none, alerts := if fl.isAlert then l.alerts.tail else l.alerts,
    stateInFlight := l.stateInFlight && fl.isAlert }

/-- A transmit error (R28, R29): the frame is abandoned, the count rises to at most 4, and from 3 to 4 transmit failure is
handed to station control. -/
def errFrame (fl : Flight) (s : State) : State :=
  let s1 := s.setLink { s.link.finish fl with errors := min (s.link.errors + 1) 4, outcome := .error }
  if s.link.errors = 3 then transmitFailure s1 else s1

/-- A transmit success (R28, R29). -/
def sendFrame (fl : Flight) (s : State) : State :=
  s.setLink { s.link.finish fl with errors := 0, outcome := .success }

/-- ARBITRATION_LOSS (R23, R28). -/
def execArbitrationLoss (s : State) : Answer :=
  match s.link.flight with
  | none => .next s
  | some fl => .next (loseFrame fl s)

/-- A start bit that was read recessive: no dominant bit has been read, so the line is IDLE as it was and no frame is in
reception (R18, R29). -/
def Link.neverBusy (l : Link) : Link :=
  { l with monitor := .idle, recessive := Config.idleBits, receiving := false }

/-- A transmit error in the start bit (R18, R28, R29). -/
def errStartBit (fl : Flight) (s : State) : State :=
  let s1 := errFrame fl s
  s1.setLink s1.link.neverBusy

/-- TRANSMIT_ERROR (R28, R29): before a dominant bit has been read the error is in the start bit, the line is IDLE still and
the station offers again at once; after that the station goes on as a receiver of the frame on the line (R31). -/
def execTransmitError (s : State) : Answer :=
  match s.link.flight with
  | none => .next s
  | some fl => .next (if s.link.startRead then errFrame fl s else errStartBit fl s)

/-! ### What becomes of a frame the station drives, by the levels read (R23, R29, R33) -/

/-- The station's own part in a frame read whole. -/
inductive OwnPart where
  | sent
  | lost
  | erred
  deriving DecidableEq, Repr

/-- The first level sent that was read otherwise, with its place. -/
def firstDifference (at_ : Nat) : List Bool → List Bool → Option (Nat × Bool)
  | [], _ => none
  | _ :: _, [] => none
  | x :: sent, y :: read => if x = y then firstDifference (at_ + 1) sent read else some (at_, x)

/-- A frame in flight against the levels read: every level read as sent; recessive sent and dominant read in the arbitration
field; any other difference. -/
def Flight.judge (fl : Flight) (line : List Bool) : OwnPart :=
  match firstDifference 0 fl.levels line with
  | none => .sent
  | some d => if d.1 < fl.arbitration ∧ d.2 = true then .lost else .erred

/-- A frame in flight that did not reach its end as sent takes its outcome (R28). -/
def endFlight (fl : Flight) (line : List Bool) (s : State) : State :=
  match fl.judge line with
  | .lost => loseFrame fl s
  | .sent => errFrame fl s
  | .erred => errFrame fl s

/-! ### Frame arrivals (R34, R35, R38, R39, R40) -/

/-- The island view replaces or creates the entry at an arrival's address. -/
def enterPeer (e : PeerEntry) (s : State) : State := s.setView { s.view with peers := putPeer e s.view.peers }

/-- The tie state is derived afresh where R44 says so. -/
def deriveIf (cond : Bool) (s : State) : State := if cond then deriveTieNow s else s

/-- An arrival of a differing share period code (R39). -/
def arriveIncompatible (f : Frame) (s : State) : State :=
  let old := findPeer s.view.peers f.source
  deriveIf (wasFeeder old) (raiseIf (newlyIncompatible old) .link (enterPeer (incompatibleEntry f old) s))

/-- A GEN-STATE arrival (R38). -/
def arriveGen (f : Frame) (b : GenBody) (s : State) : State :=
  let old := findPeer s.view.peers f.source
  deriveIf (wasFeeder old) (enterPeer (genArrival f b old) s)

/-- A FEED-STATE arrival (R38). -/
def arriveFeed (f : Frame) (b : FeedBody) (s : State) : State :=
  deriveTieNow (enterPeer (feedArrival f b (findPeer s.view.peers f.source)) s)

/-- The island view takes a TRIP ALERT (R40): the entry is set, the heard marks and the own mark clear. -/
def tripView (f : Frame) (ratedKw p : Int) (s : State) : State :=
  let e := tripArrival f ratedKw p (findPeer s.view.peers f.source)
  s.setView { s.view with peers := clearHeard f.source (putPeer e s.view.peers), ownReported := false }

/-- The island view's and the shed unit's part of a TRIP ALERT arrival (R40, R44, R52, R107). -/
def tripSums (f : Frame) (ratedKw p : Int) (s : State) : State :=
  immediateSums (deriveIf (wasFeeder (findPeer s.view.peers f.source)) (tripView f ratedKw p s))

/-- A TRIP ALERT arrival (R34): TRIP-HEARD at the port, the trigger before or after the immediate sums (R134). -/
def arriveTrip (f : Frame) (ratedKw p : Int) (captureFirst : Bool) (s : State) : State :=
  let s1 := raise .tripHeard s
  if captureFirst then tripSums f ratedKw p (offerTrigger .tripHeard s1)
  else offerTrigger .tripHeard (tripSums f ratedKw p s1)

/-- A SHED ALERT arrival (R34, R40, R114): the entry is refreshed, the cut rank offered for adoption. -/
def arriveShed (f : Frame) (cut : Nat) (s : State) : State :=
  adopt cut (s.inIsland f.sect) (s.setView { s.view with peers := shedArrival f s.view.peers })

/-- A frame arrival from a peer (R34). A frame of own period from a peer whose entry stands INCOMPATIBLE is handed on like any
other of own period (R38, R40; log entry 34). -/
def arrive (f : Frame) (captureFirst : Bool) (s : State) : State :=
  if f.period = s.ctl.cfg.period then
    match f.body with
    | .gen b => arriveGen f b s
    | .feed b => arriveFeed f b s
    | .alert (.trip ratedKw p) => arriveTrip f ratedKw p captureFirst s
    | .alert (.shed cut _) => arriveShed f cut s
  else arriveIncompatible f s

/-- A valid frame that the station did not send through its last end bit: an address clash, or an arrival (R34, R35). -/
def takeFrame (f : Frame) (captureFirst : Bool) (s : State) : State :=
  if f.source = s.ctl.straps.address then addressClash s else arrive f captureFirst s

/-! ### FRAME_RECEIVED -/

/-- The frame in reception ends: the line monitor counts on from the recessive bit times given (R18). -/
def endReception (recessive : Nat) (s : State) : State :=
  s.setLink { s.link with monitor := .busy, recessive := recessive, receiving := false }

/-- The line monitor after the levels of a frame that the station does not take. The twelve recessive bit times come after the
frame as after any other, its end bits not among them (R18, R36), and a frame that breaks off ends where a check fails (R18,
R32). Levels that stop before the frame's end are counted one by one (R18). -/
def Link.passed (line : List Bool) (l : Link) : Link :=
  match receive line with
  | .valid _ => { l with monitor := .busy, recessive := 0 }
  | .dropped n => { l with monitor := .busy, recessive := n }
  | .incomplete =>
    let m := line.foldl trackLine (l.monitor, l.recessive)
    { l with monitor := m.1, recessive := m.2 }

/-- A frame passes by a station that did not take its start bit, in INIT or STANDBY or begun before entry to LISTEN: only the line
monitor follows (R31). -/
def passBy (line : List Bool) (s : State) : State := s.setLink (s.link.passed line)

/-- A frame dropped by a check of R32; a frame in flight has met its loss or error within it. -/
def dropFrame (line : List Bool) (recessive : Nat) (s : State) : State :=
  match s.link.flight with
  | none => endReception recessive s
  | some fl => endReception recessive (endFlight fl line s)

/-- A valid frame at its last end bit: the station's own (R33), or a peer's or a clash, a frame in flight having met its loss
or error on the way (R34, R35). -/
def validFrame (line : List Bool) (f : Frame) (captureFirst : Bool) (s : State) : State :=
  match s.link.flight with
  | none => takeFrame f captureFirst (endReception 0 s)
  | some fl =>
    match fl.judge line with
    | .sent => endReception 0 (sendFrame fl s)
    | .lost => takeFrame f captureFirst (endReception 0 (loseFrame fl s))
    | .erred => takeFrame f captureFirst (endReception 0 (errFrame fl s))

/-- The receive path takes the levels: it took their start bit, at a LINE_BUSY on an IDLE line or at the station's own
FRAME_START, and the frame is still in reception (R18). A frame whose start bit fell before entry to LISTEN is not, even where
the line has become IDLE since (R31). -/
def State.takesFrame (s : State) : Bool := s.ctl.station.active && s.link.receiving

/-- FRAME_RECEIVED (R32): the levels of a frame read from its start bit on. -/
def execFrameReceived (line : List Bool) (captureFirst : Bool) (s : State) : Answer :=
  if s.takesFrame = true then
    match receive line with
    | .incomplete => .next s
    | .dropped n => .next (dropFrame line n s)
    | .valid f => .next (validFrame line f captureFirst s)
  else .next (passBy line s)

end Machine
end Sys2Proof
end

