-- ==== Sys2Proof/Machine/Reports.lean ====
section
/-! DEFINITION. Machine/Reports.lean: the reply content of the read commands, byte by byte (R164 to R166, R178), and what
stands on the plant side's outputs (R176, spec 10.6). -/

namespace Sys2Proof
namespace Machine

/-! ### Codes of R178 -/

/-- Code of a strapped role. -/
def Role.portCode : Role → Nat
  | .genset => 0
  | .feeder => 1

/-- Code of a station state in the status record; no status record is served in INIT. -/
def StationState.portCode : StationState → Nat
  | .init => 0
  | .standby => 1
  | .listen => 2
  | .run => 3
  | .fallback => 4
  | .silent => 5

/-- Code of a station state in a capture row; rows are written in these four states only. -/
def StationState.rowCode : StationState → Nat
  | .init => 0
  | .standby => 0
  | .listen => 0
  | .run => 1
  | .fallback => 2
  | .silent => 3

/-- Code of a measure state. -/
def MeasureState.portCode : MeasureState → Nat
  | .good => 0
  | .held => 1
  | .fault => 2

/-- Code of a store state. -/
def StoreState.portCode : StoreState → Nat
  | .idle => 0
  | .writing _ => 1
  | .locking => 2

/-- Code of the last transmit outcome. -/
def TxOutcome.portCode : TxOutcome → Nat
  | .none => 0
  | .success => 1
  | .error => 2

/-- Code of a slot state. -/
def Slot.portCode : Slot → Nat
  | .free => 0
  | .armed _ => 1
  | .post _ => 2
  | .ready _ => 3

/-- Code of a peer entry's role. -/
def PeerRole.portCode : PeerRole → Nat
  | .genset => 0
  | .feeder => 1
  | .unknown => 2

/-- Code of a peer entry's state. -/
def EntryState.portCode : EntryState → Nat
  | .fresh => 0
  | .stale => 1
  | .lost => 2
  | .incompatible => 3

/-- Code of a trigger cause. -/
def TriggerCause.portCode : TriggerCause → Nat
  | .shedStep => 0
  | .tripHeard => 1
  | .uf => 2
  | .forced => 3

/-! ### Fields -/

/-- One byte. -/
def byteOf (n : Nat) : Byte := BitVec.ofNat 8 n

/-- A byte of flags, the first in bit 0; the bits that the layout gives no content are sent as 0 (DESIGN CHOICE, log entry
35). -/
def flagsByte (flags : List Bool) : Byte := byteOf (flags.foldr (fun b n => 2 * n + bit b) 0)

/-- Lf, or its no-value code (R178). -/
def lfBytes : Option Int → List Byte
  | none => natBytes 4 0x80000000
  | some x => intBytes 4 (clampInt x (-2147483647) 2147483647)

/-- A signed quantity of two bytes (p_avg, a pending transfer), or its no-value code, the most negative (R178). -/
def valueBytes : Option Int → List Byte
  | none => natBytes 2 0x8000
  | some x => intBytes 2 x

/-- A time tag field: the overflow flag in bit 31, the count below it (R178). -/
def tagBytes (tag : Nat) (overflow : Bool) : List Byte := natBytes 4 (tag + 2147483648 * bit overflow)

/-! ### READ-IDENT -/

/-- The reply of READ-IDENT: the fixed codes and the strap byte, its bits 6 and 7 sent as 0 (log entry 35). -/
def State.identReply (s : State) : List Byte :=
  natBytes 2 0x4642 ++ natBytes 2 0x0220 ++
  [0x01, byteOf (s.ctl.straps.address.val + 16 * Role.portCode s.ctl.straps.role + 32 * sectCode s.ctl.straps.sect)]

/-! ### READ-STATUS (R165) -/

/-- Bytes 0 to 3: station, flags, store, measurement; bits without content are 0 (log entry 35). -/
def State.stationBytes (s : State) : List Byte :=
  [byteOf s.ctl.station.portCode,
   flagsByte [s.ctl.cfgFault, decide (s.ctl.staged ≠ Staged.empty), s.ctl.hold, s.ctl.writeEnable, s.ctl.locked],
   byteOf s.ctl.store.portCode,
   byteOf (s.intake.measure.portCode + 4 * bit s.intake.uf + 8 * bit s.intake.dead)]

/-- Bytes 4 to 6: the set; all 0 on a feeder station (log entry 19). -/
def State.gensetBytes (s : State) : List Byte :=
  if s.isGenset then
    [byteOf s.ls.unit.code, byteOf s.reportedMode.code,
     flagsByte [s.ls.biasValid, s.demand.start, s.ls.stop, s.ls.trip, s.available, s.demand.lockout]]
  else [0, 0, 0]

/-- A group's state as the port reports it: ABSENT on a genset station. -/
def State.groupReport (s : State) (g : GroupNo) : GroupState :=
  if s.isFeeder then s.shed.groups[g].state else .absent

/-- Bytes 7 to 16: group states, cut rank, derived tie state. -/
def State.shedBytes (s : State) : List Byte :=
  groupNumbers.map (fun g => byteOf (s.groupReport g).code) ++ [byteOf s.shed.cut, byteOf (bit s.view.tieClosed)]

/-- Bytes 17 to 39: the island sums, the entry counts, the share link. -/
def State.islandBytes (s : State) : List Byte :=
  intBytes 4 s.view.sums.c ++ intBytes 4 s.view.sums.l ++ intBytes 4 s.view.sums.d ++ lfBytes s.view.sums.lf ++
  valueBytes s.view.sums.pAvg ++
  [byteOf (countState .fresh s.view.peers), byteOf (countState .stale s.view.peers),
   byteOf (countState .lost s.view.peers), byteOf s.link.errors, byteOf s.link.outcome.portCode]

/-- The slot states, slot n in bits 2n + 1..2n. -/
def Capture.slotCodes (c : Capture) : Nat := slotNumbers.foldr (fun i n => 4 * n + c.slots[i].portCode) 0

/-- Bytes 40 to 49: slot states, capture counter, time tag. -/
def State.captureBytes (s : State) : List Byte :=
  natBytes 2 s.cap.slotCodes ++ natBytes 4 s.cap.counter ++ tagBytes s.cap.tag s.cap.overflow

/-- The status record, 52 bytes, the change word last. -/
def State.statusReply (s : State) : List Byte :=
  s.stationBytes ++ s.gensetBytes ++ s.shedBytes ++ s.islandBytes ++ s.captureBytes ++ natBytes 2 s.port.changeWord.toNat

/-! ### READ-PEERS -/

/-- The body area of an entry: its stored body in frame bit order, zeros after it. -/
def PeerBody.area : PeerBody → List Byte
  | .none => packBits 24 []
  | .gen b => packBits 24 b.bits
  | .feed b => packBits 24 b.bits

/-- One entry, 33 bytes. -/
def PeerEntry.reply (e : PeerEntry) : List Byte :=
  [byteOf e.address.val, byteOf e.role.portCode, byteOf (sectCode e.sect), byteOf e.period, byteOf e.state.portCode,
   byteOf e.age, flagsByte [e.tripped, e.heard, e.transfer.isSome]] ++
  valueBytes e.transfer ++ e.body.area

/-- The reply of READ-PEERS; bits 1 to 7 of the last byte are 0 (log entry 35). -/
def State.peersReply (s : State) : List Byte :=
  [byteOf s.view.peers.length] ++ s.view.peers.flatMap PeerEntry.reply ++ [byteOf (bit s.view.ownReported)]

/-! ### READ-GROUPS -/

/-- The confirm timer in milliseconds, FFFFh when stopped. -/
def confirmBytes : Option Nat → List Byte
  | none => natBytes 2 0xFFFF
  | some us => natBytes 2 (us / 1000)

/-- One group record, 10 bytes; its load is the load the group reports (R102). -/
def State.groupReply (s : State) (g : GroupNo) : List Byte :=
  if s.isFeeder then
    [byteOf (bit s.ctl.cfg.present[g]), byteOf s.ctl.cfg.rank[g], byteOf s.shed.groups[g].state.code] ++
    intBytes 2 (s.groupLoad g) ++ intBytes 2 s.shed.groups[g].remembered ++
    [byteOf (bit s.shed.groups[g].output)] ++ confirmBytes s.shed.groups[g].confirm
  else [0, 0, byteOf GroupState.absent.code, 0, 0, 0, 0, 0] ++ confirmBytes none

/-- The reply of READ-GROUPS. -/
def State.groupsReply (s : State) : List Byte := groupNumbers.flatMap s.groupReply

/-! ### READ-CAPTURE (R166) -/

/-- A record's header, 28 bytes. -/
def Header.reply (h : Header) : List Byte :=
  natBytes 4 h.number ++ [byteOf h.cause.portCode] ++ tagBytes h.tag h.overflow ++ [byteOf h.preRows] ++
  natBytes 2 h.postRows ++ [flagsByte [h.overlap, h.truncated], byteOf h.cut] ++
  intBytes 4 h.c ++ intBytes 4 h.l ++ intBytes 4 h.d ++ [byteOf h.address.val, byteOf (Role.portCode h.role)]

/-- A row, 11 bytes. -/
def Row.reply (r : Row) : List Byte :=
  intBytes 2 r.offset ++ intBytes 4 r.raw.power ++ intBytes 2 r.raw.f ++ intBytes 2 r.raw.v ++
  [byteOf (16 * r.raw.cut + 4 * r.raw.station.rowCode + r.raw.measure.portCode)]

/-- A record: header, pre-trigger rows, post-trigger rows (R135). -/
def Record.reply (rec : Record) : List Byte :=
  rec.header.reply ++ rec.pre.flatMap Row.reply ++ rec.post.flatMap Row.reply

/-- The reply of READ-CAPTURE: the count of READY records, and the record at the head of the ready list if there is one. -/
def State.captureReply (s : State) : List Byte :=
  [byteOf s.cap.readyList.length] ++
  (match s.cap.headRecord with
   | none => []
   | some rec => rec.reply)

/-! ### FORCE-CAPTURE (R167) -/

/-- The outcome byte. -/
def TriggerOutcome.portCode : TriggerOutcome → Nat
  | .notTaken => 0
  | .started => 1
  | .overlap => 2
  | .refused .a => 3
  | .refused .b => 4
  | .refused .c => 5
  | .refused .d => 6

/-- The reply of FORCE-CAPTURE: what capture does with the trigger, and the counter after it. -/
def State.forceReply (s : State) : List Byte :=
  [byteOf (judgeTrigger .forced s).portCode] ++
  natBytes 4 (countTrigger s.ctl.cfg.countMode (judgeTrigger .forced s) s.cap.counter)

/-! ### The plant side's outputs -/

/-- The five bytes of an actuator record on the actuator output (R176). -/
def ActuatorRecord.bytes (r : ActuatorRecord) : List Byte :=
  intBytes 2 r.speedBias ++ intBytes 2 r.voltBias ++ [byteOf (bit r.biasValid)]

/-- The levels of OUT0 to OUT7 (spec 10.6): the shed outputs of groups 0 to 7 on a feeder station; START, STOP and TRIP, then
five outputs held off, on a genset station. -/
def State.outPins (s : State) : List Bool :=
  if s.isFeeder then groupNumbers.map (fun g => s.shed.groups[g].output)
  else [s.demand.start, s.ls.stop, s.ls.trip, false, false, false, false, false]

/-- The byte the port sends where it sends no reply byte (R161, R178). -/
def fillerByte : Byte := 0xFF

/-- The byte the port clocks out as the `n`-th of a select period's reply (R161, R162): the result byte first, filler after the
last reply byte, and filler alone while it ignores the period (R168). -/
def Port.replyByte (p : Port) (n : Nat) : Byte :=
  match p.phase with
  | .waiting => fillerByte
  | .replying _ => p.reply.getD n fillerByte
  | .ignoring => fillerByte

end Machine
end Sys2Proof
end

