-- ==== Sys2Proof/Machine/Service.lean ====
section
/-! DEFINITION. Machine/Service.lean: the service port's commands (chapters 8 and 9): their judgment (R162, R163), their own
refusals, their effects, their replies; SELECT_DEASSERT, STATUS_READ_CLEAR, READOUT_COMPLETE. -/

namespace Sys2Proof
namespace Machine

/-! ### Results and command codes (R162, R178) -/

/-- The result byte's meanings. -/
inductive Result where
  | accepted
  | busy
  | wrongState
  | notEnabled
  | locked
  | badLength
  | badValue
  | unknown
  deriving DecidableEq, Repr

/-- Code of a result. -/
def Result.code : Result → Byte
  | .accepted => 0x00
  | .busy => 0x01
  | .wrongState => 0x02
  | .notEnabled => 0x03
  | .locked => 0x04
  | .badLength => 0x05
  | .badValue => 0x06
  | .unknown => 0x07

/-- The commands that the codes name. -/
inductive Service where
  | readIdent
  | readStatus
  | readPeers
  | readGroups
  | readCapture
  | ackChanges
  | writeEnable
  | writeConfig
  | readConfig
  | lockConfig
  | stage
  | hold
  | apply
  | enterStandby
  | resume
  | clearTrip
  | forceCapture
  | restart
  deriving DecidableEq, Repr

/-- The command a code names. -/
def Service.ofCode (code : Byte) : Option Service :=
  match code.toNat with
  | 0x01 => some .readIdent
  | 0x02 => some .readStatus
  | 0x03 => some .readPeers
  | 0x04 => some .readGroups
  | 0x05 => some .readCapture
  | 0x06 => some .ackChanges
  | 0x07 => some .writeEnable
  | 0x08 => some .writeConfig
  | 0x09 => some .readConfig
  | 0x0A => some .lockConfig
  | 0x0B => some .stage
  | 0x0C => some .hold
  | 0x0D => some .apply
  | 0x0E => some .enterStandby
  | 0x0F => some .resume
  | 0x10 => some .clearTrip
  | 0x11 => some .forceCapture
  | 0x12 => some .restart
  | _ => none

/-- The field bytes fixed for a command (R163). -/
def Service.fieldLength : Service → Nat
  | .ackChanges => 2
  | .writeConfig => recordLength
  | .stage => 3
  | .readIdent => 0
  | .readStatus => 0
  | .readPeers => 0
  | .readGroups => 0
  | .readCapture => 0
  | .writeEnable => 0
  | .readConfig => 0
  | .lockConfig => 0
  | .hold => 0
  | .apply => 0
  | .enterStandby => 0
  | .resume => 0
  | .clearTrip => 0
  | .forceCapture => 0
  | .restart => 0

/-! ### STAGE (R153, R178) -/

/-- A tunable with a value as STAGE gives them, and whether the value was clamped to its range. -/
structure StageTaken where
  staged : Staged
  clamped : Bool
  deriving DecidableEq, Repr

/-- A numeric value taken into its range. -/
def stageNumber (v lo hi : Int) (put : Int → Staged) : Option StageTaken :=
  some { staged := put (clampInt v lo hi), clamped := decide (clampInt v lo hi ≠ v) }

/-- An enumerated value: 0 or 1, nothing else. -/
def stageChoice (v : Int) (put : Bool → Staged) : Option StageTaken :=
  if v = 0 then some { staged := put false, clamped := false }
  else if v = 1 then some { staged := put true, clamped := false }
  else none

/-- The staged set with a tunable's value in it, or none when the identity or the value names nothing. -/
def stageTunable (identity : Nat) (v : Int) (g : Staged) : Option StageTaken :=
  match identity with
  | 0 => stageNumber v 0 255 (fun x => { g with ks := some x })
  | 1 => stageNumber v 0 255 (fun x => { g with kf := some x })
  | 2 => stageNumber v 0 255 (fun x => { g with kq := some x })
  | 3 => stageNumber v 0 255 (fun x => { g with kv := some x })
  | 4 => stageChoice v (fun b => { g with mode := some (if b then .base else .share) })
  | 5 => stageNumber v 0 11000 (fun x => { g with baseSetpoint := some x })
  | 6 => stageNumber v 5000 10000 (fun x => { g with startPct := some x })
  | 7 => stageNumber v 3000 9000 (fun x => { g with stopPct := some x })
  | 8 => stageNumber v 0 32767 (fun x => { g with restoreMargin := some x })
  | 9 => stageChoice v (fun b => { g with captureArmed := some b })
  | _ => none

/-- What a STAGE command's three bytes do to the staged set. -/
def State.staging (s : State) (fields : List Byte) : Option StageTaken :=
  stageTunable (fieldAt fields 0 1) (signedAt fields 1 2) s.ctl.staged

/-! ### The commands' own refusals, in the order of their rules -/

/-- The first of the conditions that holds gives the refusal. -/
def firstRefusal : List (Bool × Result) → Option Result
  | [] => none
  | x :: rest => if x.1 then some x.2 else firstRefusal rest

/-- A store operation runs. -/
def State.storeBusy (s : State) : Bool := decide (s.ctl.store ≠ .idle)

/-- The station is in STANDBY. -/
def State.inStandby (s : State) : Bool := decide (s.ctl.station = .standby)

/-- A command's own refusal in a station past INIT (R162, row 4). -/
def Service.refusal (c : Service) (fields : List Byte) (s : State) : Option Result :=
  match c with
  | .readIdent => none
  | .readStatus => none
  | .readPeers => none
  | .readGroups => none
  | .readCapture => none
  | .readConfig => none
  | .ackChanges => none
  | .enterStandby => none
  | .clearTrip => none
  | .forceCapture => none
  | .writeEnable => firstRefusal [(s.storeBusy, .busy), (!s.inStandby, .wrongState)]
  | .writeConfig =>
    firstRefusal [(!s.inStandby, .wrongState), (!s.ctl.writeEnable, .notEnabled), (s.ctl.locked, .locked),
      (!recordInRange fields || gensetTieReporter fields, .badValue), (s.storeBusy, .busy)]
  | .lockConfig =>
    firstRefusal [(!s.inStandby, .wrongState), (!s.ctl.writeEnable, .notEnabled), (s.ctl.locked, .locked),
      (s.storeBusy, .busy), (!recordCrcOk s.ctl.stored || !recordInRange s.ctl.stored, .badValue)]
  | .stage => firstRefusal [(s.inStandby, .wrongState), ((s.staging fields).isNone, .badValue)]
  | .hold => firstRefusal [(s.inStandby, .wrongState)]
  | .apply => firstRefusal [(s.inStandby, .wrongState)]
  | .resume => firstRefusal [(!s.inStandby, .wrongState), (s.storeBusy, .busy), (s.ctl.cfgFault, .wrongState)]
  | .restart => firstRefusal [(s.storeBusy, .busy)]

/-! ### Effects -/

/-- READ-STATUS takes its snapshot of the change word; every raised-again mark clears (R169). -/
def takeSnapshot (s : State) : State := s.setPort { s.port with snapshot := s.port.changeWord, again := 0 }

/-- STAGE puts a value into the staged set, with CLAMPED when it was clamped (R153). -/
def stageEffect (fields : List Byte) (s : State) : State :=
  match s.staging fields with
  | none => s
  | some t => raiseIf t.clamped .clamped (s.setCtl { s.ctl with staged := t.staged })

/-- The load-share unit as CLEAR-TRIP leaves TRIPPED (R61). -/
def LoadShare.tripCleared (u : LoadShare) : LoadShare := { u with unit := .offline, stop := false }

/-- CLEAR-TRIP (R61); on a feeder station it has no effect (R168). -/
def clearTripEffect (s : State) : State :=
  if s.isGenset then
    let s1 := s.setDemand { s.demand with lockout := false }
    if s1.ls.unit = .tripped then
      let s2 := raise .unit (s1.setLs s1.ls.tripCleared)
      if s2.intake.setBreaker.settled = .closed then setSettlesClosed s2 else s2
    else s1
  else s

/-- ENTER-STANDBY (R145): in STANDBY it changes nothing. -/
def standbyEffect (s : State) : State := if s.ctl.station.active = true then enterStandbyState s else s

/-- An accepted command's effect, taken at its judgment. RESTART's reset is not taken here (R168). -/
def Service.effect (c : Service) (fields : List Byte) (s : State) : State :=
  match c with
  | .readIdent => s
  | .readStatus => takeSnapshot s
  | .readPeers => s
  | .readGroups => s
  | .readCapture => s
  | .readConfig => s
  | .ackChanges => clearFlags (BitVec.ofNat 16 (fieldAt fields 0 2)) s
  | .writeEnable => s.setCtl { s.ctl with writeEnable := true }
  | .writeConfig => s.setCtl { s.ctl with store := .writing fields }
  | .lockConfig => s.setCtl { s.ctl with store := .locking }
  | .stage => stageEffect fields s
  | .hold => s.setCtl { s.ctl with hold := true }
  | .apply => s.setCtl { s.ctl with hold := false }
  | .enterStandby => standbyEffect s
  | .resume => enterListen s
  | .clearTrip => clearTripEffect s
  | .forceCapture => offerTrigger .forced s
  | .restart => s

/-- The reply content of an accepted command, from the state at its judgment (R164 to R167). -/
def Service.content (c : Service) (s : State) : List Byte :=
  match c with
  | .readIdent => s.identReply
  | .readStatus => s.statusReply
  | .readPeers => s.peersReply
  | .readGroups => s.groupsReply
  | .readCapture => s.captureReply
  | .readConfig => s.ctl.stored
  | .forceCapture => s.forceReply
  | .ackChanges => []
  | .writeEnable => []
  | .writeConfig => []
  | .lockConfig => []
  | .stage => []
  | .hold => []
  | .apply => []
  | .enterStandby => []
  | .resume => []
  | .clearTrip => []
  | .restart => []

/-- What an accepted command's reply still leads to. -/
def Service.replyKind (c : Service) (s : State) : ReplyKind :=
  match c with
  | .readStatus => .status
  | .readCapture => if s.cap.readyList = [] then .plain else .readout
  | .restart => .restart
  | .readIdent => .plain
  | .readPeers => .plain
  | .readGroups => .plain
  | .readConfig => .plain
  | .ackChanges => .plain
  | .writeEnable => .plain
  | .writeConfig => .plain
  | .lockConfig => .plain
  | .stage => .plain
  | .hold => .plain
  | .apply => .plain
  | .enterStandby => .plain
  | .resume => .plain
  | .clearTrip => .plain
  | .forceCapture => .plain

/-! ### Judgment (R161, R162) -/

/-- Select is deasserted: the reply in progress is cut; a RESTART accepted in this period resets the station now, with the
straps at the levels their pins hold (R161, R168). -/
def endSelect (s : State) : State :=
  let s1 := if s.port.phase = .replying .restart then resetStation s.ctl.pins .before s else s
  s1.setPort { s1.port with phase := .waiting }

/-- The port begins its reply: the result byte, then the reply content. -/
def answerWith (r : Result) (content : List Byte) (kind : ReplyKind) (s : State) : State :=
  s.setPort { s.port with phase := .replying kind, reply := r.code :: content }

/-- A refused command sends its result byte and nothing more (R162). -/
def refuse (r : Result) (s : State) : State := answerWith r [] .plain s

/-- The result of a complete command by the order of R162. -/
def judge (code : Byte) (fields : List Byte) (s : State) : Result :=
  if s.ctl.station = .init then .busy
  else
    match Service.ofCode code with
    | none => .unknown
    | some c => if fields.length = c.fieldLength then (c.refusal fields s).getD .accepted else .badLength

/-- An accepted command: its effect is made and its reply begins. -/
def accept (c : Service) (fields : List Byte) (s : State) : State :=
  answerWith .accepted (c.content s) (c.replyKind s) (c.effect fields s)

/-- A complete command is judged and answered (R162). -/
def answerCommand (code : Byte) (fields : List Byte) (s : State) : State :=
  match judge code fields s with
  | .accepted =>
    match Service.ofCode code with
    | none => s
    | some c => accept c fields s
  | r => refuse r s

/-- A complete command in a select period of its own; the select period before it has ended (R161, log entry 10). -/
def serve (code : Byte) (fields : List Byte) (s : State) : State := answerCommand code fields (endSelect s)

/-! ### The commands -/

/-- READ-IDENT (R164). -/
def execReadIdent (fields : List Byte) (s : State) : Answer := .next (serve 0x01 fields s)
/-- READ-STATUS (R165). -/
def execReadStatus (fields : List Byte) (s : State) : Answer := .next (serve 0x02 fields s)
/-- READ-PEERS (R164). -/
def execReadPeers (fields : List Byte) (s : State) : Answer := .next (serve 0x03 fields s)
/-- READ-GROUPS (R164). -/
def execReadGroups (fields : List Byte) (s : State) : Answer := .next (serve 0x04 fields s)
/-- READ-CAPTURE (R166). -/
def execReadCapture (fields : List Byte) (s : State) : Answer := .next (serve 0x05 fields s)
/-- ACK-CHANGES (R171). -/
def execAckChanges (fields : List Byte) (s : State) : Answer := .next (serve 0x06 fields s)
/-- WRITE-ENABLE (R156). -/
def execWriteEnable (fields : List Byte) (s : State) : Answer := .next (serve 0x07 fields s)
/-- WRITE-CONFIG (R157). -/
def execWriteConfig (fields : List Byte) (s : State) : Answer := .next (serve 0x08 fields s)
/-- READ-CONFIG (R155, R164). -/
def execReadConfig (fields : List Byte) (s : State) : Answer := .next (serve 0x09 fields s)
/-- LOCK-CONFIG (R158). -/
def execLockConfig (fields : List Byte) (s : State) : Answer := .next (serve 0x0A fields s)
/-- STAGE (R153). -/
def execStage (fields : List Byte) (s : State) : Answer := .next (serve 0x0B fields s)
/-- HOLD (R154). -/
def execHold (fields : List Byte) (s : State) : Answer := .next (serve 0x0C fields s)
/-- APPLY (R154). -/
def execApply (fields : List Byte) (s : State) : Answer := .next (serve 0x0D fields s)
/-- ENTER-STANDBY (R145). -/
def execEnterStandby (fields : List Byte) (s : State) : Answer := .next (serve 0x0E fields s)
/-- RESUME (R146). -/
def execResume (fields : List Byte) (s : State) : Answer := .next (serve 0x0F fields s)
/-- CLEAR-TRIP (R61). -/
def execClearTrip (fields : List Byte) (s : State) : Answer := .next (serve 0x10 fields s)
/-- FORCE-CAPTURE (R167). -/
def execForceCapture (fields : List Byte) (s : State) : Answer := .next (serve 0x11 fields s)
/-- RESTART (R168). -/
def execRestart (fields : List Byte) (s : State) : Answer := .next (serve 0x12 fields s)
/-- UNKNOWN_COMMAND (R162). -/
def execUnknownCommand (code : Byte) (fields : List Byte) (s : State) : Answer := .next (serve code fields s)

/-! ### Events of a reply -/

/-- SELECT_DEASSERT (R161, R168). -/
def execSelectDeassert (s : State) : Answer := .next (endSelect s)

/-- The reply in progress leads to nothing more. -/
def Port.settled (p : Port) : Port := { p with phase := .replying .plain }

/-- STATUS_READ_CLEAR (R169, R170): the change word byte has been clocked out. In READ-CLEAR mode the flags of the snapshot
that were not raised again clear; in WRITE-BACK mode none does. -/
def execStatusReadClear (s : State) : Answer :=
  if s.port.phase = .replying .status then
    let s1 := s.setPort s.port.settled
    match s.ctl.cfg.ackMode with
    | .readClear => .next (clearFlags (s.port.snapshot &&& ~~~s.port.again) s1)
    | .writeBack => .next s1
  else .next s

/-- READOUT_COMPLETE (R136): the last byte of the record's last row has been clocked out. A record without rows ends its readout
with it too (DESIGN CHOICE, log entry 41). -/
def execReadoutComplete (s : State) : Answer :=
  if s.port.phase = .replying .readout then .next (freeHead (s.setPort s.port.settled)) else .next s

end Machine
end Sys2Proof
end

