-- ==== Sys2Proof/Machine/Life.lean ====
section
/-! DEFINITION. Machine/Life.lean: station life (chapter 8): RESET, RESTART_RESET, END_OF_INIT, STORE_COMPLETION. -/

namespace Sys2Proof
namespace Machine

/-- RESET (R141, R160): power-on or the reset pin. -/
def execReset (pins : Straps) (cut : StoreCut) (s : State) : Answer := .next (resetStation pins cut s)

/-- RESTART_RESET (R168): the result byte of an accepted RESTART has gone; the reset follows. -/
def execRestartReset (pins : Straps) (s : State) : Answer :=
  if s.port.phase = .replying .restart then .next (resetStation pins .before s) else .next s

/-! ### The end of INIT (R142) -/

/-- The stored record fails the test of INIT (R142). -/
def Control.recordFails (c : Control) : Bool := recordFaulty c.straps c.stored

/-- The working configuration that INIT takes (R142, R143). -/
def Control.takenConfig (c : Control) : Settings :=
  if c.recordFails then Settings.faultSet c.straps.role c.straps.sect else parseSettings (c.stored.take recordLength)

/-- Station control at the end of INIT. -/
def Control.endInit (c : Control) : Control :=
  { c with station := .standby, cfg := c.takenConfig, cfgFault := c.recordFails, staged := Staged.empty, hold := false,
           writeEnable := false, store := .idle }

/-- A group at the end of INIT (R121, R98): as if its breaker had settled OPEN with its output at the level of cut rank 15. -/
def initialGroup (role : Role) (cfg : Settings) (g : GroupNo) : Group :=
  if role = .feeder ∧ cfg.present[g] = true then
    if 1 ≤ cfg.rank[g] then { state := .shed, remembered := 0, output := true, confirm := none }
    else { state := .opened, remembered := 0, output := false, confirm := none }
  else Group.absentGroup

/-- The shed unit as the working configuration is taken (R98, R121). -/
def initialShed (role : Role) (cfg : Settings) : Shed :=
  { Shed.reset with groups := Vector.ofFn (initialGroup role cfg) }

/-- The attention line as the port's modes are taken: with no flag set it is deasserted (R172, R174). -/
def Port.takeModes (c : Settings) (p : Port) : Port :=
  { p with attention := (match c.attentionMode with
                         | .level => attentionLevel c p.changeWord
                         | .pulse => p.attention) }

/-- INIT ends (R142): STANDBY with the working configuration taken; the shed outputs (R98), the island view's own items (R55)
and the port's modes (R174) follow from it, and a genset station sends its record at entry to STANDBY (R80, R81). -/
def endInit (s : State) : State :=
  let s1 := s.setCtl s.ctl.endInit
  let s2 := (s1.setShed (initialShed s1.ctl.straps.role s1.ctl.cfg)).setPort (s1.port.takeModes s1.ctl.cfg)
  sendActuator (s2.setView { s2.view with sums := initialSums s2 })

/-- END_OF_INIT (R142). -/
def execEndOfInit (s : State) : Answer := if s.ctl.station = .init then .next (endInit s) else .next s

/-! ### The completion of a store operation (R159) -/

/-- Station control at the completion: the new record with its check, or the locked mark; the latch clears. -/
def Control.storeDone (c : Control) : Control :=
  match c.store with
  | .idle => c
  | .writing rec => { c with stored := rec ++ crcBytes rec, store := .idle, writeEnable := false }
  | .locking => { c with locked := true, store := .idle, writeEnable := false }

/-- STORE_COMPLETION (R159). -/
def execStoreCompletion (s : State) : Answer :=
  if s.ctl.store = .idle then .next s else .next (raise .storeDone (s.setCtl s.ctl.storeDone))

end Machine
end Sys2Proof
end

