-- ==== Sys2Proof/Machine/Dispatch.lean ====
section
/-! DEFINITION. Machine/Dispatch.lean: one arm per command, each a call of its meaning. -/

namespace Sys2Proof
namespace Machine

def exec (i : Instr) (s : State) : Host.Outcome State Fault Refusal :=
  match i with
  | .reset pins cut => Sys2Proof.Machine.execReset pins cut s
  | .endOfInit => Sys2Proof.Machine.execEndOfInit s
  | .sampleArrival bytes order => Sys2Proof.Machine.execSampleArrival bytes order s
  | .measureTimerHeld => Sys2Proof.Machine.execMeasureTimerHeld s
  | .measureTimerFault => Sys2Proof.Machine.execMeasureTimerFault s
  | .transitTimeout breaker => Sys2Proof.Machine.execTransitTimeout breaker s
  | .shareTimerExpiry order => Sys2Proof.Machine.execShareTimerExpiry order s
  | .listenEnd order => Sys2Proof.Machine.execListenEnd order s
  | .fallbackExit order => Sys2Proof.Machine.execFallbackExit order s
  | .startAttemptTimeout order => Sys2Proof.Machine.execStartAttemptTimeout order s
  | .stopNeedExpiry order => Sys2Proof.Machine.execStopNeedExpiry order s
  | .settleTimerExpiry order => Sys2Proof.Machine.execSettleTimerExpiry order s
  | .ladderStep order => Sys2Proof.Machine.execLadderStep order s
  | .restorationStep order => Sys2Proof.Machine.execRestorationStep order s
  | .confirmTimeout group => Sys2Proof.Machine.execConfirmTimeout group s
  | .tripTimeout => Sys2Proof.Machine.execTripTimeout s
  | .stopPulseEnd => Sys2Proof.Machine.execStopPulseEnd s
  | .lineIdle => Sys2Proof.Machine.execLineIdle s
  | .frameStart => Sys2Proof.Machine.execFrameStart s
  | .arbitrationLoss => Sys2Proof.Machine.execArbitrationLoss s
  | .transmitError => Sys2Proof.Machine.execTransmitError s
  | .frameReceived line captureFirst => Sys2Proof.Machine.execFrameReceived line captureFirst s
  | .timeTagWrap => Sys2Proof.Machine.execTimeTagWrap s
  | .readoutComplete => Sys2Proof.Machine.execReadoutComplete s
  | .storeCompletion => Sys2Proof.Machine.execStoreCompletion s
  | .selectDeassert => Sys2Proof.Machine.execSelectDeassert s
  | .readIdent fields => Sys2Proof.Machine.execReadIdent fields s
  | .readStatus fields => Sys2Proof.Machine.execReadStatus fields s
  | .statusReadClear => Sys2Proof.Machine.execStatusReadClear s
  | .readPeers fields => Sys2Proof.Machine.execReadPeers fields s
  | .readGroups fields => Sys2Proof.Machine.execReadGroups fields s
  | .readCapture fields => Sys2Proof.Machine.execReadCapture fields s
  | .readConfig fields => Sys2Proof.Machine.execReadConfig fields s
  | .ackChanges fields => Sys2Proof.Machine.execAckChanges fields s
  | .writeEnable fields => Sys2Proof.Machine.execWriteEnable fields s
  | .writeConfig fields => Sys2Proof.Machine.execWriteConfig fields s
  | .lockConfig fields => Sys2Proof.Machine.execLockConfig fields s
  | .stage fields => Sys2Proof.Machine.execStage fields s
  | .hold fields => Sys2Proof.Machine.execHold fields s
  | .apply fields => Sys2Proof.Machine.execApply fields s
  | .enterStandby fields => Sys2Proof.Machine.execEnterStandby fields s
  | .resume fields => Sys2Proof.Machine.execResume fields s
  | .restart fields => Sys2Proof.Machine.execRestart fields s
  | .restartReset pins => Sys2Proof.Machine.execRestartReset pins s
  | .clearTrip fields => Sys2Proof.Machine.execClearTrip fields s
  | .forceCapture fields => Sys2Proof.Machine.execForceCapture fields s
  | .unknownCommand code fields => Sys2Proof.Machine.execUnknownCommand code fields s
  | .attentionPulseEnd => Sys2Proof.Machine.execAttentionPulseEnd s
  | .lineBusy => Sys2Proof.Machine.execLineBusy s

end Machine
end Sys2Proof
end

