-- ==== Sys2Proof/Machine/Timebase.lean ====
section
/-! DEFINITION. Machine/Timebase.lean: one microsecond of the station's timebase in which no command waits (log entries 2, 3):
the running timers advance, and the events that fall due are queued as commands. One microsecond is one bit time of a
recessive line (R17). -/

namespace Sys2Proof
namespace Machine

/-- A running timer one microsecond further; a stopped timer stays stopped. -/
def tickTimer (t : Option Nat) : Option Nat := t.map (fun n => n + 1)

/-- A breaker's transit timer one microsecond further. -/
def BreakerView.tick (b : BreakerView) : BreakerView := { b with transit := tickTimer b.transit }

/-- Intake's timers: measure timer and transit timers (R6, R10). -/
def Intake.tick (i : Intake) : Intake :=
  { i with
    measureTimer := tickTimer i.measureTimer, setBreaker := i.setBreaker.tick, tieBreaker := i.tieBreaker.tick,
    groupBreakers := Vector.ofFn (fun g : GroupNo => i.groupBreakers[g].tick) }

/-- One bit time of the line (R18). Outside a frame it lies recessive; while a frame is in reception or in flight its levels
are given by the frame's own commands (log entry 22), and the station's own start bit, its bit time past with no error, has been
read dominant (log entry 21). -/
def Link.tick (l : Link) : Link :=
  if l.flight ≠ none then { l with startRead := true }
  else if l.receiving = false then { l with recessive := min (l.recessive + 1) Config.idleBits }
  else l

/-- The load-share unit's timers: TRIP timer and stop-pulse timer (R75, R79). -/
def LoadShare.tick (u : LoadShare) : LoadShare :=
  { u with tripTimer := tickTimer u.tripTimer, stopTimer := tickTimer u.stopTimer }

/-- The confirm timers (R101). -/
def Shed.tick (u : Shed) : Shed :=
  { u with groups := Vector.ofFn (fun g : GroupNo => { u.groups[g] with confirm := tickTimer u.groups[g].confirm }) }

/-- A microsecond of the time tag's millisecond has its end at hand (R123). -/
def Capture.milliEnds (c : Capture) : Bool := decide (1000 ≤ c.tagMicros + 1)

/-- The time tag (R123): it counts in LISTEN, RUN, FALLBACK and SILENT, but for the count that wraps it, which is a command. -/
def Capture.tick (active : Bool) (c : Capture) : Capture :=
  if active = false then c
  else if c.milliEnds = false then { c with tagMicros := c.tagMicros + 1 }
  else if c.tag < Config.timeTagMax then { c with tag := c.tag + 1, tagMicros := 0 }
  else c

/-- The station one microsecond further. -/
def advance (s : State) : State :=
  ((((((s.setCtl { s.ctl with shareTimer := tickTimer s.ctl.shareTimer }).setIntake s.intake.tick).setLink
    s.link.tick).setLs s.ls.tick).setShed s.shed.tick).setCap (s.cap.tick s.ctl.station.active)).setPort
    { s.port with pulse := tickTimer s.port.pulse }

/-- A command when its event is due. -/
def dueIf (cond : Bool) (i : Instr) : List Instr := if cond then [i] else []

/-- A breaker's transit timer has run out (R10). -/
def BreakerView.transitDue (b : BreakerView) : Bool := b.inTransit && timerDue Config.transitUs b.transit

/-- The time tag wraps with this microsecond. -/
def State.wrapDue (s : State) : Bool :=
  s.ctl.station.active && s.cap.milliEnds && decide (Config.timeTagMax ≤ s.cap.tag)

/-- A frame begins: RUN or FALLBACK, the line IDLE, a frame to offer (R22). -/
def State.startDue (s : State) : Bool :=
  s.ctl.station.transmits && decide (s.link.monitor = .idle) && decide (s.link.flight = none) &&
  !s.link.receiving && s.offer.isSome

/-- The events due in a state whose timers have advanced by one microsecond from `before`. -/
def dueEvents (before s : State) : List Instr :=
  dueIf (decide (s.intake.measure = .good) && timerDue Config.measureHeldUs s.intake.measureTimer) .measureTimerHeld ++
  dueIf (timerDue Config.measureFaultUs s.intake.measureTimer) .measureTimerFault ++
  dueIf s.intake.setBreaker.transitDue (.transitTimeout .set) ++
  groupNumbers.flatMap (fun g => dueIf s.intake.groupBreakers[g].transitDue (.transitTimeout (.group g))) ++
  dueIf s.intake.tieBreaker.transitDue (.transitTimeout .tie) ++
  groupNumbers.flatMap (fun g =>
    dueIf (s.confirmDue g) (.confirmTimeout g)) ++
  dueIf (timerDue Config.tripUs s.ls.tripTimer) .tripTimeout ++
  dueIf (timerDue Config.stopPulseUs s.ls.stopTimer) .stopPulseEnd ++
  dueIf (timerDue s.ctl.cfg.periodUs s.ctl.shareTimer) (.shareTimerExpiry (Config.expiryOrder s.freeIndex)) ++
  dueIf (timerDue Config.pulseUs s.port.pulse) .attentionPulseEnd ++
  dueIf (decide (s.link.monitor = .busy) && decide (Config.idleBits ≤ s.link.recessive)) .lineIdle ++
  dueIf s.startDue .frameStart ++
  dueIf before.wrapDue .timeTagWrap

/-- A command put into a list by its rank. -/
def insertRanked (x : Nat × Instr) : List (Nat × Instr) → List (Nat × Instr)
  | [] => [x]
  | y :: rest => if x.1 ≤ y.1 then x :: y :: rest else y :: insertRanked x rest

/-- Commands with the ranks that a free choice gives them, the `i`-th first. -/
def withRanks (choice : Nat) : Nat → List Instr → List (Nat × Instr)
  | _, [] => []
  | i, x :: rest => (Config.raceRank choice i, x) :: withRanks choice (i + 1) rest

/-- The events of one instant in a free order (log entry 3). -/
def raceOrder (choice : Nat) (events : List Instr) : List Instr :=
  ((withRanks choice 0 events).foldr insertRanked []).map Prod.snd

/-- A microsecond with no command waiting: the timers advance, and what falls due waits in the queue. -/
def idle (s : State) : State :=
  let s1 := advance s
  let due := dueEvents s s1
  if due = [] then s1 else { s1 with pending := s1.pending ++ raceOrder s.freeIndex due, freeIndex := s.freeIndex + 1 }

end Machine
end Sys2Proof
end

