-- ==== Sys2Proof/Safety.lean ====
section
/-! DEFINITION. Safety.lean: what a sound state of the station is, block by block, and the words that statements use for what a
command leaves unchanged. Every predicate is over plain data; none is assumed by a meaning. -/

namespace Sys2Proof
/-- The table's command for each command that a code names, with the field bytes given (R178). -/
def Machine.Service.command (c : Machine.Service) (fields : List Byte) : Instr :=
  match c with
  | .readIdent => .readIdent fields
  | .readStatus => .readStatus fields
  | .readPeers => .readPeers fields
  | .readGroups => .readGroups fields
  | .readCapture => .readCapture fields
  | .ackChanges => .ackChanges fields
  | .writeEnable => .writeEnable fields
  | .writeConfig => .writeConfig fields
  | .readConfig => .readConfig fields
  | .lockConfig => .lockConfig fields
  | .stage => .stage fields
  | .hold => .hold fields
  | .apply => .apply fields
  | .enterStandby => .enterStandby fields
  | .resume => .resume fields
  | .clearTrip => .clearTrip fields
  | .forceCapture => .forceCapture fields
  | .restart => .restart fields

namespace Safety

open Machine

/-! ### Frames -/

/-- The blocks of a state. -/
inductive Block where
  | ctl
  | intake
  | link
  | view
  | ls
  | demand
  | shed
  | cap
  | port
  deriving DecidableEq, Repr

/-- Every block but those named is the same in `t` as in `s`, and so are the queue and the count of free choices. -/
def Kept (changed : List Block) (s t : State) : Prop :=
  (Block.ctl ∉ changed → t.ctl = s.ctl) ∧ (Block.intake ∉ changed → t.intake = s.intake) ∧
  (Block.link ∉ changed → t.link = s.link) ∧ (Block.view ∉ changed → t.view = s.view) ∧
  (Block.ls ∉ changed → t.ls = s.ls) ∧ (Block.demand ∉ changed → t.demand = s.demand) ∧
  (Block.shed ∉ changed → t.shed = s.shed) ∧ (Block.cap ∉ changed → t.cap = s.cap) ∧
  (Block.port ∉ changed → t.port = s.port) ∧ t.freeIndex = s.freeIndex ∧ t.pending = s.pending

/-- A flag stands set in the change word. -/
def flagOf (s : State) (f : ChangeFlag) : Bool := flagSet s.port.changeWord f

/-- Exactly the named flags are raised: the change word has them added and no other bit changed; the reply in progress and the
snapshot stand. -/
def RaisedOnly (flags : List ChangeFlag) (s t : State) : Prop :=
  t.port.changeWord = flags.foldl (fun w f => w ||| f.mask) s.port.changeWord ∧
  t.port.phase = s.port.phase ∧ t.port.reply = s.port.reply ∧ t.port.snapshot = s.port.snapshot

/-- Station control but for the store, the latch, the staged set, the counters and timers: the identity and the structural
settings, which hold from the end of INIT to the next reset (R141, R152). -/
def sameIdentity (s t : State) : Prop :=
  t.ctl.straps = s.ctl.straps ∧ t.ctl.cfgFault = s.ctl.cfgFault ∧
  { t.ctl.cfg with tun := s.ctl.cfg.tun } = s.ctl.cfg

/-- `m` is `sum` divided by `n` and rounded to the nearest integer, halves away from zero (spec 4.3). -/
def IsRounded (m sum : Int) (n : Nat) : Prop :=
  2 * |m * n - sum| ≤ n ∧ (2 * |m * n - sum| = n → |sum| ≤ |m * n|)

/-! ### Timers, limits and breakers -/

/-- A running timer reaches a time with the microsecond that passes. -/
def reaches (limit : Nat) (timer : Option Nat) : Prop := ∃ n, timer = some n ∧ limit ≤ n + 1

/-- A value limited to a range about 0. -/
def limited (limit x : Int) : Int := max (-limit) (min limit x)

/-- What a sample's auxiliary pair makes of a breaker (R8, R9). -/
def breakerRead (pair : AuxPair) (before after : BreakerView) : Prop :=
  (pair = { a := true, b := false } → after = { decoded := .closed, settled := .closed, transit := none }) ∧
  (pair = { a := false, b := true } → after = { decoded := .opened, settled := .opened, transit := none }) ∧
  (pair = { a := true, b := true } → after = { decoded := .fault, settled := before.settled, transit := none }) ∧
  (pair = { a := false, b := false } →
    after = (if before.decoded = .transit ∨ before.decoded = .fault then before
             else { decoded := .transit, settled := before.settled, transit := some 0 }))

/-- A sample's auxiliary pair settles a breaker, or brings it into FAULT or out of it (R9, R11). -/
def breakerNews (pair : AuxPair) (before : BreakerView) : Prop :=
  (pair = { a := true, b := false } ∧ (before.settled ≠ .closed ∨ before.decoded = .fault)) ∨
  (pair = { a := false, b := true } ∧ (before.settled ≠ .opened ∨ before.decoded = .fault)) ∨
  (pair = { a := true, b := true } ∧ before.decoded ≠ .fault)

/-! ### Island rows, start need and stop condition -/

/-- The load of a peer's row in the table of R46. -/
def rowLoad (e : PeerEntry) : Int :=
  if e.state = .incompatible ∨ e.tripped = true then 0
  else
    match e.body with
    | .none => 0
    | .feed _ => 0
    | .gen b => if b.unit.onBus = true then b.p else 0

/-- The capacity of a peer's row in the table of R46. -/
def rowCapacity (e : PeerEntry) : Int :=
  if e.state = .incompatible ∨ e.tripped = true then 0
  else
    match e.body with
    | .none => 0
    | .feed _ => 0
    | .gen b =>
      if b.unit.onBus = true then (if e.state = .lost ∨ b.measBad = true then max b.p 0 else b.capacity) else 0

/-- The own set is AVAILABLE (R84). -/
def ownAvailable (s : State) : Prop :=
  s.isGenset = true ∧ s.ls.unit = .offline ∧ s.intake.ready = true ∧ s.demand.lockout = false ∧ s.ls.stopTimer = none

/-- A peer among the island gensets is an available set (R85). -/
def peerAvailable (g : IslandGenset) : Prop := g.own = false ∧ g.available = true ∧ g.tripped = false

/-- The own start key is lower than that of an island genset (R85). -/
def ownKeyLower (s : State) (g : IslandGenset) : Prop :=
  s.ctl.cfg.startOrder < g.startOrder ∨ (s.ctl.cfg.startOrder = g.startOrder ∧ s.ctl.straps.address < g.address)

/-- The own set is chosen (R85). -/
def ownChosen (s : State) : Prop :=
  ownAvailable s ∧ ∀ g ∈ s.view.sums.gensets, peerAvailable g → ownKeyLower s g

/-- The island has a start need, with the start-need timer at a count (R87). -/
def startWanted (s : State) (timer : Nat) : Prop :=
  total ((s.view.sums.gensets.filter (fun g => decide (g.unit = .starting) && !g.tripped)).map IslandGenset.ratedKw) <
    s.view.sums.d ∨
  ((∀ g ∈ s.view.sums.gensets, g.unit = .starting → g.tripped = true) ∧
    ((s.view.sums.c = 0 ∧ (ownAvailable s ∨ ∃ g ∈ s.view.sums.gensets, peerAvailable g)) ∨
      timer = s.ctl.cfg.startDelay))

/-- The stop condition, item by item (R93). -/
def stopHolds (s : State) : Prop :=
  (s.ls.unit = .online ∧ s.ctl.cfg.tun.mode = .share ∧ s.ls.biasValid = true) ∧
  2 ≤ (s.view.sums.gensets.filter (fun g => decide (g.unit = .online) && !g.tripped)).length ∧
  (∀ g ∈ s.view.sums.gensets, g.own = false → g.unit = .online → g.tripped = false → g.mode = .share →
    g.startOrder < s.ctl.cfg.startOrder ∨
      (g.startOrder = s.ctl.cfg.startOrder ∧ g.address < s.ctl.straps.address)) ∧
  (∀ g ∈ s.view.sums.gensets, g.unit ≠ .rampOut) ∧
  s.shed.cut = 0 ∧ (s.intake.uf = false ∧ s.view.sums.coincidence = 0) ∧
  1 ≤ s.view.sums.c - s.view.sums.ownCapacity ∧
  roundDiv (s.view.sums.l * 10000) (s.view.sums.c - s.view.sums.ownCapacity) < s.ctl.cfg.tun.stopPct

/-! ### Commands of the service port -/

/-- No accepted RESTART waits for its reset, so that the next select period finds the station as it stands (R168). -/
def noRestart (s : State) : Prop := s.port.phase ≠ .replying .restart

/-- The port answers a command with a result and a reply content, and the reply leads to what `kind` says. -/
def Answers (r : Result) (content : List Byte) (kind : ReplyKind) (t : State) : Prop :=
  t.port.phase = .replying kind ∧ t.port.reply = r.code :: content

/-- The port keeps its flags, the marks of R169 and its line. -/
def sameFlags (s t : State) : Prop :=
  t.port.changeWord = s.port.changeWord ∧ t.port.snapshot = s.port.snapshot ∧ t.port.again = s.port.again ∧
  t.port.attention = s.port.attention ∧ t.port.pulse = s.port.pulse

/-- A staged numeric tunable, by its identity (R178). -/
def stagedNumber (identity : Nat) (g : Staged) : Option Int :=
  match identity with
  | 0 => g.ks
  | 1 => g.kf
  | 2 => g.kq
  | 3 => g.kv
  | 5 => g.baseSetpoint
  | 6 => g.startPct
  | 7 => g.stopPct
  | 8 => g.restoreMargin
  | _ => none

/-! ### Frames that a station can send (R175) -/

/-- A sixteen-bit signed value. -/
def signed16 (x : Int) : Prop := -32768 ≤ x ∧ x ≤ 32767

/-- A rating as sent. -/
def ratingOk (x : Int) : Prop := 100 ≤ x ∧ x ≤ 32000

/-- The body's values lie in the ranges a transmitter sends. -/
def bodyOk : FrameBody → Prop
  | .alert (.trip ratedKw p) => ratingOk ratedKw ∧ signed16 p
  | .alert (.shed cut _) => cut ≤ 15
  | .gen b =>
    1 ≤ b.startOrder ∧ b.startOrder ≤ 15 ∧ ratingOk b.ratedKw ∧ ratingOk b.ratedKvar ∧
    0 ≤ b.capacity ∧ b.capacity ≤ 32000 ∧ signed16 b.p ∧ signed16 b.q ∧ b.cut ≤ 15
  | .feed b => b.cut ≤ 15 ∧ ∀ g : GroupNo, b.groups[g].rank ≤ 15 ∧ 0 ≤ b.groups[g].load ∧ b.groups[g].load ≤ 32767

/-- A frame that a station can send. -/
def frameOk (f : Frame) : Prop := f.period ≤ 3 ∧ bodyOk f.body

/-! ### The status record (R178) -/

/-- A group state's code. -/
def sentGroup : GroupState → Nat
  | .connected => 0
  | .shedding => 1
  | .shed => 2
  | .shedFailed => 3
  | .opened => 4
  | .fault => 5
  | .absent => 6

/-- A signed value of four bytes. -/
def signed32 (x : Int) : Prop := -2147483648 ≤ x ∧ x ≤ 2147483647

/-- The first fifty bytes of the status record, field by field. -/
def statusFields (s : State) (r : List Byte) : Prop :=
  (s.ctl.station ≠ .init → fieldAt r 0 1 = (match s.ctl.station with
    | .init => 0 | .standby => 1 | .listen => 2 | .run => 3 | .fallback => 4 | .silent => 5)) ∧
  ((fieldAt r 1 1).testBit 0 = s.ctl.cfgFault ∧ (fieldAt r 1 1).testBit 1 = decide (s.ctl.staged ≠ Staged.empty) ∧
    (fieldAt r 1 1).testBit 2 = s.ctl.hold ∧ (fieldAt r 1 1).testBit 3 = s.ctl.writeEnable ∧
    (fieldAt r 1 1).testBit 4 = s.ctl.locked) ∧
  fieldAt r 2 1 = (match s.ctl.store with | .idle => 0 | .writing _ => 1 | .locking => 2) ∧
  (fieldAt r 3 1 % 4 = (match s.intake.measure with | .good => 0 | .held => 1 | .fault => 2) ∧
    (fieldAt r 3 1).testBit 2 = s.intake.uf ∧ (fieldAt r 3 1).testBit 3 = s.intake.dead) ∧
  (s.isFeeder = true → fieldAt r 4 3 = 0) ∧
  (s.isGenset = true →
    fieldAt r 4 1 = (match s.ls.unit with
      | .offline => 0 | .starting => 1 | .rampIn => 2 | .online => 3 | .rampOut => 4 | .tripped => 5) ∧
    fieldAt r 5 1 = (if s.ls.biasValid = false then 2 else match s.ctl.cfg.tun.mode with | .share => 0 | .base => 1) ∧
    (fieldAt r 6 1).testBit 0 = s.ls.biasValid ∧ (fieldAt r 6 1).testBit 1 = s.demand.start ∧
    (fieldAt r 6 1).testBit 2 = s.ls.stop ∧ (fieldAt r 6 1).testBit 3 = s.ls.trip ∧
    ((fieldAt r 6 1).testBit 4 = true ↔ ownAvailable s) ∧ (fieldAt r 6 1).testBit 5 = s.demand.lockout) ∧
  (∀ g : GroupNo, fieldAt r (7 + g.val) 1 = (if s.isFeeder then sentGroup s.shed.groups[g].state else 6)) ∧
  (s.shed.cut ≤ 255 → fieldAt r 15 1 = s.shed.cut) ∧ fieldAt r 16 1 = (if s.view.tieClosed then 1 else 0) ∧
  (signed32 s.view.sums.c → signedAt r 17 4 = s.view.sums.c) ∧
  (signed32 s.view.sums.l → signedAt r 21 4 = s.view.sums.l) ∧
  (signed32 s.view.sums.d → signedAt r 25 4 = s.view.sums.d) ∧
  (s.view.sums.lf = none → fieldAt r 29 4 = 0x80000000) ∧
  (∀ x, s.view.sums.lf = some x → signedAt r 29 4 = limited 2147483647 x) ∧
  (s.view.sums.pAvg = none → fieldAt r 33 2 = 0x8000) ∧
  (∀ x, s.view.sums.pAvg = some x → signed16 x → signedAt r 33 2 = x) ∧
  (s.view.peers.length ≤ 255 →
    fieldAt r 35 1 = (s.view.peers.filter (fun e => decide (e.state = .fresh))).length ∧
    fieldAt r 36 1 = (s.view.peers.filter (fun e => decide (e.state = .stale))).length ∧
    fieldAt r 37 1 = (s.view.peers.filter (fun e => decide (e.state = .lost))).length) ∧
  (s.link.errors ≤ 255 → fieldAt r 38 1 = s.link.errors) ∧
  fieldAt r 39 1 = (match s.link.outcome with | .none => 0 | .success => 1 | .error => 2) ∧
  (∀ i : SlotNo, fieldAt r 40 2 / 4 ^ i.val % 4 =
    (match s.cap.slots[i] with | .free => 0 | .armed _ => 1 | .post _ => 2 | .ready _ => 3)) ∧
  (s.cap.counter ≤ 4294967295 → fieldAt r 42 4 = s.cap.counter) ∧
  (s.cap.tag ≤ 2147483647 → fieldAt r 46 4 = s.cap.tag + (if s.cap.overflow then 2147483648 else 0))

/-! ### Sound blocks -/

/-- The law of the transmit set and the count of transmit errors (R25, R26, R29). -/
def transmitOk (s : State) : Prop := s.link.alerts.length ≤ 4 ∧ s.link.errors ≤ 4

/-- Outside RUN and FALLBACK the station holds nothing to send, sends nothing, and has taken no outcome (R29, R30). -/
def quietOk (s : State) : Prop :=
  s.ctl.station.transmits = false →
    s.link.alerts = [] ∧ s.link.flight = none ∧ s.link.statePending = false ∧ s.link.stateInFlight = false ∧
    s.link.errors = 0 ∧ s.link.outcome = .none

/-- BIAS-VALID is asserted exactly under the conditions of R64, and while it is not both biases are 0. -/
def biasOk (s : State) : Prop :=
  s.ls.biasValid = s.biasLevel ∧ (s.ls.biasValid = false → s.ls.speedBias = 0 ∧ s.ls.voltBias = 0)

/-- Each bias lies within its limit (R64). -/
def biasRange (s : State) : Prop :=
  0 ≤ s.ctl.cfg.biasLimit ∧ 0 ≤ s.ctl.cfg.vBiasLimit ∧
  -s.ctl.cfg.biasLimit ≤ s.ls.speedBias ∧ s.ls.speedBias ≤ s.ctl.cfg.biasLimit ∧
  -s.ctl.cfg.vBiasLimit ≤ s.ls.voltBias ∧ s.ls.voltBias ≤ s.ctl.cfg.vBiasLimit

/-- The outputs START, STOP and TRIP against the unit state and the timers (R75, R76, R79, R89). -/
def outputsOk (s : State) : Prop :=
  (s.demand.start = true ↔ s.ls.unit = .starting) ∧ (s.demand.attempt.isSome = s.demand.start) ∧
  (s.ls.stop = true ↔ s.ls.unit = .tripped ∨ s.ls.stopTimer ≠ none) ∧
  (s.ls.stopTimer ≠ none → s.ls.unit = .offline) ∧
  (s.ls.tripTimer.isSome = s.ls.trip) ∧ (s.ls.trip = true → s.ls.unit = .rampOut ∧ s.ls.tripFailed = false) ∧
  (s.ls.tripFailed = true → s.ls.unit = .rampOut)

/-- The cut rank is a rank; a group is ABSENT exactly when it is not present, and each shed output stands at the level R98
gives it. -/
def shedOk (s : State) : Prop :=
  s.shed.cut ≤ 15 ∧
  ∀ g : GroupNo, (s.shed.groups[g].state = .absent ↔ s.groupPresent g = false) ∧
    s.shed.groups[g].output = s.outputAt s.shed.cut g

/-- A slot is READY. -/
def isReady : Slot → Bool
  | .free => false
  | .armed _ => false
  | .post _ => false
  | .ready _ => true

/-- At most one slot is ARMED or POST, and the ready list names each READY slot once and no other (R122, R130, R136). -/
def captureOk (s : State) : Prop :=
  (∀ i j : SlotNo, s.cap.slots[i].active = true → s.cap.slots[j].active = true → i = j) ∧
  s.cap.readyList.Nodup ∧ ∀ i : SlotNo, i ∈ s.cap.readyList ↔ isReady s.cap.slots[i] = true

/-- The peer table in rising address order, without an entry for the own address (R37). -/
def peersOk (s : State) : Prop :=
  (s.view.peers.map PeerEntry.address).Pairwise (· < ·) ∧
  ∀ e ∈ s.view.peers, e.address ≠ s.ctl.straps.address

/-- The measure timer is stopped exactly in FAULT (R5, R6, R7). -/
def measureOk (s : State) : Prop := s.intake.measureTimer = none ↔ s.intake.measure = .fault

/-- In LEVEL mode the attention line is asserted exactly while an enabled flag is set, and no pulse runs; INIT stands in LEVEL
mode (R172). -/
def attentionOk (s : State) : Prop :=
  (s.ctl.station = .init → s.ctl.cfg.attentionMode = .level) ∧
  (s.ctl.cfg.attentionMode = .level →
    s.port.attention = attentionLevel s.ctl.cfg s.port.changeWord ∧ s.port.pulse = none)

/-- The share timer runs exactly in LISTEN, RUN, FALLBACK and SILENT (R144, R145). -/
def shareTimerOk (s : State) : Prop := s.ctl.shareTimer.isSome = s.ctl.station.active

/-- Every block is sound. -/
def Sound (s : State) : Prop :=
  transmitOk s ∧ quietOk s ∧ biasOk s ∧ biasRange s ∧ outputsOk s ∧ shedOk s ∧ captureOk s ∧ peersOk s ∧ measureOk s ∧
  attentionOk s ∧ shareTimerOk s

end Safety
end Sys2Proof
end

