-- ==== Sys2Proof/Certificates/Slice0/Obligations.lean ====
section
/-! DEFINITION. Certificates/Slice0/Obligations.lean: the statements for the provers. Each says in its docstring which rules of
spec/ it formalises, and names the log entry where a clause is the model's choice. -/

open Sys2Proof Sys2Proof.Machine Sys2Proof.Safety

/-! ### The machine as a whole -/

/-- A step takes the command at the front of the queue and runs it with the queue's rest (log entry 1). -/
def Obligations.StepRunsFrontCommand : Prop :=
  ∀ (c : Instr) (rest : List Instr) (s : State),
    s.pending = c :: rest → step s = exec c { s with pending := rest }

/-- With an empty queue a step is one microsecond of the timebase (the model's choice, log entries 2, 3, 18, 21, 22): each running
timer counts one more, the time tag and the line monitor go on, and nothing else of the station changes. What falls due is
queued, each event once, in a free order: the measure timer's ends at 15 ms and 40 ms (R6), a transit timer's at 100 ms (R10), a
SHEDDING group's confirm timer's at confirm_time (R101), the TRIP timer's and the stop pulse's at 2000 ms (R77, R79), the share
expiry at 10, 20 or 40 ms (R144), the attention pulse's end at 10 microseconds (R173), the tag's wrap past 2147483647 (R123), the
IDLE line at the twelfth recessive bit time (R18), and a frame's start on an IDLE line with a frame to offer (R22); below its
time none of them. -/
def Obligations.EmptyQueueAdvancesTimers : Prop :=
  ∀ s : State, s.pending = [] → ∃ t, step s = .next t ∧
    t.ctl = { s.ctl with shareTimer := s.ctl.shareTimer.map (fun n => n + 1) } ∧
    t.intake = s.intake.tick ∧ t.intake.measureTimer = s.intake.measureTimer.map (fun n => n + 1) ∧
    t.intake.latest = s.intake.latest ∧ t.intake.sums = s.intake.sums ∧ t.intake.means = s.intake.means ∧
    t.intake.measure = s.intake.measure ∧ t.intake.ready = s.intake.ready ∧
    t.link = s.link.tick ∧ t.link.alerts = s.link.alerts ∧ t.link.flight = s.link.flight ∧
    t.link.statePending = s.link.statePending ∧ t.link.stateInFlight = s.link.stateInFlight ∧
    t.link.errors = s.link.errors ∧ t.link.outcome = s.link.outcome ∧ t.link.monitor = s.link.monitor ∧
    t.view = s.view ∧ t.demand = s.demand ∧
    t.ls = { s.ls with tripTimer := s.ls.tripTimer.map (fun n => n + 1), stopTimer := s.ls.stopTimer.map (fun n => n + 1) } ∧
    t.shed = { s.shed with groups := t.shed.groups } ∧
    (∀ g : GroupNo, t.shed.groups[g] =
      { s.shed.groups[g] with confirm := s.shed.groups[g].confirm.map (fun n => n + 1) }) ∧
    t.cap = s.cap.tick s.ctl.station.active ∧ t.cap.slots = s.cap.slots ∧ t.cap.readyList = s.cap.readyList ∧
    t.cap.counter = s.cap.counter ∧ t.cap.overflow = s.cap.overflow ∧
    (s.ctl.station.active = false → t.cap = s.cap) ∧
    t.port = { s.port with pulse := s.port.pulse.map (fun n => n + 1) } ∧
    t.pending = raceOrder s.freeIndex (dueEvents s (advance s)) ∧ t.pending.Perm (dueEvents s (advance s)) ∧
    t.freeIndex = (if dueEvents s (advance s) = [] then s.freeIndex else s.freeIndex + 1) ∧
    (.measureTimerHeld ∈ t.pending ↔ s.intake.measure = .good ∧ reaches 15000 s.intake.measureTimer) ∧
    (.measureTimerFault ∈ t.pending ↔ reaches 40000 s.intake.measureTimer) ∧
    (.transitTimeout .set ∈ t.pending ↔
      s.intake.setBreaker.decoded = .transit ∧ reaches 100000 s.intake.setBreaker.transit) ∧
    (.transitTimeout .tie ∈ t.pending ↔
      s.intake.tieBreaker.decoded = .transit ∧ reaches 100000 s.intake.tieBreaker.transit) ∧
    (∀ g : GroupNo,
      (.transitTimeout (.group g) ∈ t.pending ↔
        s.intake.groupBreakers[g].decoded = .transit ∧ reaches 100000 s.intake.groupBreakers[g].transit) ∧
      (.confirmTimeout g ∈ t.pending ↔
        s.shed.groups[g].state = .shedding ∧ reaches (1000 * s.ctl.cfg.confirmTime) s.shed.groups[g].confirm)) ∧
    (.tripTimeout ∈ t.pending ↔ reaches 2000000 s.ls.tripTimer) ∧
    (.stopPulseEnd ∈ t.pending ↔ reaches 2000000 s.ls.stopTimer) ∧
    (∀ us, (s.ctl.cfg.period, us) ∈ [(0, 10000), (1, 20000), (2, 40000)] →
      ((∃ order, .shareTimerExpiry order ∈ t.pending) ↔ reaches us s.ctl.shareTimer)) ∧
    (.attentionPulseEnd ∈ t.pending ↔ reaches 10 s.port.pulse) ∧
    (s.link.flight = none → s.link.receiving = false → t.link.recessive = min (s.link.recessive + 1) 12) ∧
    ((s.link.flight ≠ none ∨ s.link.receiving = true) → t.link.recessive = s.link.recessive) ∧
    t.link.receiving = s.link.receiving ∧
    (.lineIdle ∈ t.pending ↔ s.link.monitor = .busy ∧ 12 ≤ t.link.recessive) ∧
    (.frameStart ∈ t.pending ↔ s.ctl.station.transmits = true ∧ s.link.monitor = .idle ∧ s.link.flight = none ∧
      s.link.receiving = false ∧ (s.link.alerts ≠ [] ∨ s.link.statePending = true)) ∧
    (s.ctl.station.active = true → s.cap.tagMicros + 1 < 1000 →
      t.cap = { s.cap with tagMicros := s.cap.tagMicros + 1 }) ∧
    (s.ctl.station.active = true → 1000 ≤ s.cap.tagMicros + 1 → s.cap.tag < 2147483647 →
      t.cap = { s.cap with tag := s.cap.tag + 1, tagMicros := 0 }) ∧
    (.timeTagWrap ∈ t.pending ↔
      s.ctl.station.active = true ∧ 1000 ≤ s.cap.tagMicros + 1 ∧ 2147483647 ≤ s.cap.tag)

/-- A command changes neither the queue nor the count of free choices (log entries 1, 3). -/
def Obligations.CommandsLeaveTheQueue : Prop :=
  ∀ (c : Instr) (s t : State), exec c s = .next t → t.pending = s.pending ∧ t.freeIndex = s.freeIndex

/-- The state after power-on is sound in every block (R15, R36, R55, R83, R96, R121, R139, R160, R174). That INIT stands in
LEVEL mode is log entry 12. -/
def Obligations.ResetStateIsSound : Prop := Sound State.reset

/-! ### What every step keeps -/

/-- The alert queue never holds more than four alerts and the error count never passes four; outside RUN and FALLBACK nothing
is held to send (R25, R26, R29, R30). -/
def Obligations.StepKeepsTransmitSet : Prop :=
  ∀ s t : State, transmitOk s → quietOk s → step s = .next t → transmitOk t ∧ quietOk t

/-- The law of the biases (R64): BIAS-VALID stays asserted exactly under its conditions, with both biases 0 while it is not, and
the speed bias stays within ±bias_limit and the voltage bias within ±vbias_limit. -/
def Obligations.StepKeepsBiasLaw : Prop :=
  ∀ s t : State, biasOk s → step s = .next t → biasOk t ∧ (biasRange s → biasRange t)

/-- START, STOP and TRIP keep their relation to the unit state and the timers (R75, R76, R77, R79, R89, R90). -/
def Obligations.StepKeepsGensetOutputs : Prop := ∀ s t : State, outputsOk s → step s = .next t → outputsOk t

/-- The cut rank stays a rank and every shed output stays asserted exactly when R98 says. -/
def Obligations.StepKeepsShedOutputs : Prop := ∀ s t : State, shedOk s → step s = .next t → shedOk t

/-- At most one slot stays ARMED or POST, and the ready list goes on naming each READY slot once (R122, R124, R130, R136). -/
def Obligations.StepKeepsCaptureSlots : Prop := ∀ s t : State, captureOk s → step s = .next t → captureOk t

/-- The peer table stays in address order, one entry per address, none for the own address (R37). -/
def Obligations.StepKeepsPeerTable : Prop := ∀ s t : State, peersOk s → step s = .next t → peersOk t

/-- The measure timer runs exactly outside FAULT, and the share timer exactly in LISTEN, RUN, FALLBACK and SILENT (R6, R7,
R144, R145). -/
def Obligations.StepKeepsTimerLaw : Prop :=
  ∀ s t : State, measureOk s → shareTimerOk s → step s = .next t → measureOk t ∧ shareTimerOk t

/-- In LEVEL mode the attention line stays asserted exactly while an enabled flag is set (R172). That INIT stands in LEVEL mode
is log entry 12. -/
def Obligations.StepKeepsAttentionLevel : Prop := ∀ s t : State, attentionOk s → step s = .next t → attentionOk t

/-- Address, role, section, CONFIG-FAULT and every structural setting hold from the end of INIT until the next reset (R141,
R142, R152): only a step into INIT changes them. -/
def Obligations.StepKeepsIdentity : Prop :=
  ∀ s t : State, s.ctl.station ≠ .init → step s = .next t → t.ctl.station = .init ∨ sameIdentity s t

/-- Every change of unit state raises UNIT, except the changes made at reset and at STANDBY entry (R62). -/
def Obligations.UnitChangeRaisesUnit : Prop :=
  ∀ (c : Instr) (s t : State), exec c s = .next t → t.ls.unit ≠ s.ls.unit →
    flagOf t .unit = true ∨ t.ctl.station = .init ∨ (t.ctl.station = .standby ∧ s.ctl.station ≠ .standby)

/-- The capture counter never decreases, except that every reset sets it to 0 (R132). -/
def Obligations.CaptureCounterNeverFalls : Prop :=
  ∀ (c : Instr) (s t : State), s.cap.counter ≤ Config.captureCounterMax → exec c s = .next t →
    (s.cap.counter ≤ t.cap.counter ∧ t.cap.counter ≤ Config.captureCounterMax) ∨
    (t.ctl.station = .init ∧ t.cap.counter = 0)

/-! ### Formats -/

/-- Every frame that a station can send is read back whole by the receive path, whatever levels follow it (R19, R20, R21, R32,
R175). -/
def Obligations.ReceiveReadsSentFrame : Prop :=
  ∀ (f : Frame) (rest : List Bool), frameOk f → receive (f.levels ++ rest) = .valid f

/-- No seven levels in a row are equal in a stuffed region (R20). -/
def Obligations.StuffedRegionHasNoSevenEqual : Prop :=
  ∀ (bits before after : List Bool) (level : Bool), stuff bits ≠ before ++ List.replicate 7 level ++ after

/-- A record in range that is being written is stored with its check at the completion (R159), and INIT after a reset takes it
when its role and section are those strapped, and the fault set when they are not (R142, R143, R155, R177). -/
def Obligations.StoredRecordIsTakenAtInit : Prop :=
  ∀ (rec : List Byte) (pins : Straps) (cut : StoreCut) (s : State),
    rec.length = recordLength → recordInRange rec = true → gensetTieReporter rec = false →
    s.ctl.store = .writing rec →
    ∃ t u v, exec .storeCompletion s = .next t ∧ exec (.reset pins cut) t = .next u ∧ exec .endOfInit u = .next v ∧
      t.ctl.stored = rec ++ crcBytes rec ∧ t.ctl.store = .idle ∧ t.ctl.writeEnable = false ∧
      t.ctl.cfg = s.ctl.cfg ∧ t.ctl.locked = s.ctl.locked ∧ RaisedOnly [.storeDone] s t ∧ Kept [.ctl, .port] s t ∧
      v.ctl.station = .standby ∧ v.ctl.straps = pins ∧ v.ctl.stored = rec ++ crcBytes rec ∧
      (if recordRole rec = pins.role ∧ recordSect rec = pins.sect then
        v.ctl.cfgFault = false ∧ v.ctl.cfg = parseSettings rec
       else v.ctl.cfgFault = true ∧ v.ctl.cfg = Settings.faultSet pins.role pins.sect)

/-! ### Reset and INIT -/

/-- RESET puts every block in its reset state, the straps sampled, and keeps the stored record and the locked mark but for a
store operation that it cuts (R15, R36, R55, R83, R96, R121, R139, R141, R159, R160, R174). A select period in progress is
dropped and its reply with it (R168). Which end a cut operation comes to is the command's operand (log entry 13); the
configuration, CONFIG-FAULT and the groups in INIT are log entry 12, the count of actuator records sent and the reply's value are
log entries 16 and 27. RESTART_RESET, where an accepted RESTART waits, does the same (R160, R168). -/
def Obligations.ResetSetsEveryBlock : Prop :=
  (∀ (pins : Straps) (s : State), s.port.phase = .replying .restart →
    exec (.restartReset pins) s = exec (.reset pins .before) s) ∧
  ∀ (pins : Straps) (cut : StoreCut) (s : State), ∃ t, exec (.reset pins cut) s = .next t ∧
    t.ctl.station = .init ∧ t.ctl.straps = pins ∧ t.ctl.staged = Staged.empty ∧ t.ctl.hold = false ∧
    t.ctl.listenCount = 0 ∧ t.ctl.fallbackCount = 0 ∧ t.ctl.shareTimer = none ∧ t.ctl.store = .idle ∧
    t.ctl.writeEnable = false ∧ t.ctl.cfg = Settings.faultSet pins.role pins.sect ∧ t.ctl.cfgFault = false ∧
    t.intake = Intake.reset ∧ t.link = Link.reset ∧ t.demand = Demand.reset ∧ t.cap = Capture.reset ∧
    t.view = View.reset pins (Settings.faultSet pins.role pins.sect) ∧
    t.view.peers = [] ∧ t.view.ownReported = true ∧ t.view.tieClosed = false ∧
    t.view.sums.c = 0 ∧ t.view.sums.l = 0 ∧ t.view.sums.d = 0 ∧ t.view.sums.lf = none ∧
    t.view.sums.pAvg = none ∧ t.view.sums.qAvg = none ∧ t.view.sums.sharers = [] ∧ t.view.sums.coincidence = 0 ∧
    t.ls = { LoadShare.reset with
      actuator := if pins.role = .genset then { speedBias := 0, voltBias := 0, biasValid := false } else s.ls.actuator
      actuatorSent := if pins.role = .genset then s.ls.actuatorSent + 1 else s.ls.actuatorSent } ∧
    t.ls.unit = .offline ∧ t.ls.k = 0 ∧ t.ls.p0 = none ∧ t.ls.target = none ∧ t.ls.speedBias = 0 ∧ t.ls.voltBias = 0 ∧
    t.ls.biasValid = false ∧ t.ls.trip = false ∧ t.ls.tripTimer = none ∧ t.ls.tripFailed = false ∧ t.ls.stop = false ∧
    t.ls.stopTimer = none ∧
    t.shed = Shed.reset ∧ t.shed.cut = 15 ∧ t.shed.settle = none ∧ t.shed.step = none ∧ t.shed.restore = 0 ∧
    (∀ g : GroupNo, t.shed.groups[g] = { state := .absent, remembered := 0, output := false, confirm := none }) ∧
    t.port = { phase := if s.port.phase = .waiting then .waiting else .ignoring, reply := [], changeWord := 0, snapshot := 0,
               again := 0, attention := false, pulse := none } ∧
    (match cut, s.ctl.store with
     | .after, .writing rec => t.ctl.stored = rec ++ crcBytes rec ∧ t.ctl.locked = s.ctl.locked
     | .after, .locking => t.ctl.stored = s.ctl.stored ∧ t.ctl.locked = true
     | .after, .idle => t.ctl.stored = s.ctl.stored ∧ t.ctl.locked = s.ctl.locked
     | .before, _ => t.ctl.stored = s.ctl.stored ∧ t.ctl.locked = s.ctl.locked) ∧
    t.pending = s.pending ∧ t.freeIndex = s.freeIndex

/-- END_OF_INIT takes the station from INIT to STANDBY with the working configuration of R142 and R143 and the groups of R121,
raises no flag, and is no event in another state (log entry 9). At that entry to STANDBY a genset station sends its actuator
record (R80, R81), with zero biases and BIAS-VALID deasserted where the law of R64 holds; the count of records sent is log entry
16. -/
def Obligations.EndOfInitEntersStandby : Prop :=
  ∀ s : State,
    (s.ctl.station = .init → ∃ t, exec .endOfInit s = .next t ∧
      t.ctl.station = .standby ∧ t.ctl.straps = s.ctl.straps ∧ t.ctl.cfgFault = recordFaulty s.ctl.straps s.ctl.stored ∧
      t.ctl.cfg = (if recordFaulty s.ctl.straps s.ctl.stored then Settings.faultSet s.ctl.straps.role s.ctl.straps.sect
                   else parseSettings (s.ctl.stored.take recordLength)) ∧
      t.ctl.staged = Staged.empty ∧ t.ctl.hold = false ∧ t.ctl.writeEnable = false ∧ t.ctl.store = .idle ∧
      t.ctl.stored = s.ctl.stored ∧ t.ctl.locked = s.ctl.locked ∧
      t.shed.cut = 15 ∧
      (∀ g : GroupNo, (t.shed.groups[g].state, t.shed.groups[g].output) =
        (if t.groupPresent g then (if 1 ≤ t.ctl.cfg.rank[g] then (.shed, true) else (.opened, false))
         else (.absent, false))) ∧
      t.port.changeWord = s.port.changeWord ∧ t.view.peers = s.view.peers ∧ t.view.tieClosed = s.view.tieClosed ∧
      (s.isFeeder = true → t.ls = s.ls) ∧
      (s.isGenset = true → t.ls = { s.ls with
        actuator := { speedBias := s.ls.speedBias, voltBias := s.ls.voltBias, biasValid := s.ls.biasValid }
        actuatorSent := s.ls.actuatorSent + 1 }) ∧
      (s.isGenset = true → biasOk s → t.ls.actuator = { speedBias := 0, voltBias := 0, biasValid := false }) ∧
      Kept [.ctl, .shed, .view, .ls, .port] s t) ∧
    (s.ctl.station ≠ .init → exec .endOfInit s = .next s)

/-! ### Measurement intake -/

/-- SAMPLE_ARRIVAL: a record that fails a check of R1, or that comes in INIT or STANDBY (R2), changes nothing. An accepted one
becomes the latest sample, is added to the period sums unless 255 are in them, and makes the measure state GOOD with its timer
from 0 (R3, R6); the means and station control stand, and no peer entry changes. -/
def Obligations.SampleArrivalTakesSample : Prop :=
  ∀ (bytes : List Byte) (order : List SamplePart) (s : State),
    ((s.ctl.station.active = false ∨ parseSample s.ctl.straps.role bytes = none) →
      exec (.sampleArrival bytes order) s = .next s) ∧
    ∀ x : Sample, s.ctl.station.active = true → parseSample s.ctl.straps.role bytes = some x →
      ∃ t, exec (.sampleArrival bytes order) s = .next t ∧
        t.intake.latest = some x ∧ t.intake.measure = .good ∧ t.intake.measureTimer = some 0 ∧
        t.intake.means = s.intake.means ∧
        (if s.intake.sums.n < 255 then
          t.intake.sums.n = s.intake.sums.n + 1 ∧ t.intake.sums.p = s.intake.sums.p + x.p ∧
          t.intake.sums.q = s.intake.sums.q + x.q ∧ t.intake.sums.f = s.intake.sums.f + x.f ∧
          t.intake.sums.v = s.intake.sums.v + x.v ∧
          ∀ g : GroupNo, t.intake.sums.loads[g] = s.intake.sums.loads[g] + x.loads[g]
         else t.intake.sums = s.intake.sums) ∧
        (s.intake.measure = .fault → flagOf t .measure = true) ∧
        t.ctl = s.ctl ∧ t.view.peers = s.view.peers ∧ t.pending = s.pending

/-- A sample reads its breakers (R8, R9, R11): CLOSED and OPEN decode and settle, stopping the transit timer; DISCREPANT makes
FAULT at once; a passing contact makes TRANSIT of a decoded state that is not TRANSIT or FAULT, starting its timer, and keeps
the settled state; news raises BREAKER or GROUP. A genset station reads its set breaker: a CLOSED settle in OFFLINE or STARTING
makes RAMP-IN with k 0, cuts a stop pulse and ends the start attempt (R56, R79, R90), and an OPEN settle at own TRIP makes
OFFLINE with TRIP released and the stop pulse begun (R76). A feeder station reads the pairs of its present groups and, as tie
reporter, the tie pair: where the sample leaves the cut rank, each group's state follows the table of R100, and the tie state is
derived (R44). -/
def Obligations.SampleReadsSetBreaker : Prop :=
  (∀ (bytes : List Byte) (order : List SamplePart) (s : State) (x : Sample),
    s.ctl.station.active = true → s.ctl.straps.role = .genset → parseSample .genset bytes = some x →
    ∃ t, exec (.sampleArrival bytes order) s = .next t ∧
      breakerRead x.setAux s.intake.setBreaker t.intake.setBreaker ∧
      t.intake.groupBreakers = s.intake.groupBreakers ∧ t.intake.tieBreaker = s.intake.tieBreaker ∧
      (breakerNews x.setAux s.intake.setBreaker → flagOf t .breaker = true) ∧
      (x.setAux = { a := true, b := false } → s.intake.setBreaker.settled ≠ .closed → s.ctl.station.working = true →
        (s.ls.unit = .offline ∨ s.ls.unit = .starting) →
        t.ls.unit = .rampIn ∧ t.ls.k = 0 ∧ t.ls.stop = false ∧ t.ls.stopTimer = none ∧ t.demand.start = false ∧
        t.demand.attempt = none ∧ flagOf t .unit = true) ∧
      (x.setAux = { a := false, b := true } → s.intake.setBreaker.settled ≠ .opened → s.ls.unit.onBus = true →
        s.ls.trip = true → biasOk s → s.intake.measure ≠ .fault → (s.intake.uf = true ∨ s.ctl.cfg.fUf ≤ x.f) →
        t.ls.unit = .offline ∧ t.ls.trip = false ∧ t.ls.tripTimer = none ∧ t.ls.stop = true ∧
        t.ls.stopTimer = some 0 ∧ t.ls.speedBias = 0 ∧ t.ls.voltBias = 0 ∧ t.ls.biasValid = false ∧
        t.link.alerts = s.link.alerts ∧ flagOf t .unit = true)) ∧
  (∀ (bytes : List Byte) (order : List SamplePart) (s : State) (x : Sample),
    s.ctl.station.active = true → s.ctl.straps.role = .feeder → parseSample .feeder bytes = some x →
    ∃ t, exec (.sampleArrival bytes order) s = .next t ∧ t.intake.setBreaker = s.intake.setBreaker ∧
      (∀ g : GroupNo,
        (s.groupPresent g = false → t.intake.groupBreakers[g] = s.intake.groupBreakers[g]) ∧
        (s.groupPresent g = true →
          breakerRead x.groupAux[g] s.intake.groupBreakers[g] t.intake.groupBreakers[g] ∧
          (breakerNews x.groupAux[g] s.intake.groupBreakers[g] → flagOf t .group = true) ∧
          (t.shed.cut = s.shed.cut → s.shed.groups[g].state ≠ .absent →
            (¬ breakerNews x.groupAux[g] s.intake.groupBreakers[g] → t.shed.groups[g] = s.shed.groups[g]) ∧
            (breakerNews x.groupAux[g] s.intake.groupBreakers[g] →
              (x.groupAux[g] = { a := true, b := false } → t.shed.groups[g] =
                (if s.shed.groups[g].output = false then
                  { s.shed.groups[g] with state := .connected, confirm := none }
                 else if s.shed.groups[g].state = .shedFailed then s.shed.groups[g]
                 else { s.shed.groups[g] with state := .shedding, confirm := some 0 })) ∧
              (x.groupAux[g] = { a := false, b := true } → t.shed.groups[g] =
                (if s.shed.groups[g].output = true then { s.shed.groups[g] with state := .shed, confirm := none }
                 else { s.shed.groups[g] with state := .opened, remembered := 0, confirm := none })) ∧
              (x.groupAux[g] = { a := true, b := true } → t.shed.groups[g] =
                { s.shed.groups[g] with state := .fault, confirm := none }))))) ∧
      (s.ctl.cfg.tieReporter = false → t.intake.tieBreaker = s.intake.tieBreaker) ∧
      (s.ctl.cfg.tieReporter = true → breakerRead x.tieAux s.intake.tieBreaker t.intake.tieBreaker ∧
        (breakerNews x.tieAux s.intake.tieBreaker → flagOf t .breaker = true ∧ t.view.tieClosed = t.derivedTie)))

/-- The set breaker settling OPEN on a running set with TRIP deasserted is a trip (R59, R60): TRIPPED with STOP asserted, both
biases 0, BIAS-VALID deasserted, UNIT raised; with measurement in hand, in RUN or FALLBACK, and room in the queue, a TRIP ALERT
with the rated kW and the last closed P mean is queued. -/
def Obligations.OpenBreakerTripsSet : Prop :=
  ∀ (bytes : List Byte) (order : List SamplePart) (s : State) (x : Sample),
    s.ctl.station.active = true → s.ctl.straps.role = .genset → parseSample .genset bytes = some x →
    x.setAux = { a := false, b := true } → s.intake.setBreaker.settled ≠ .opened →
    s.ls.unit.onBus = true → s.ls.trip = false →
    ∃ t, exec (.sampleArrival bytes order) s = .next t ∧
      t.ls.unit = .tripped ∧ t.ls.stop = true ∧ t.ls.stopTimer = none ∧ t.ls.trip = false ∧
      t.ls.speedBias = 0 ∧ t.ls.voltBias = 0 ∧ t.ls.biasValid = false ∧ flagOf t .unit = true ∧
      (s.intake.measure ≠ .fault → s.ctl.station.transmits = true → s.link.alerts.length < 4 →
        t.link.alerts = s.link.alerts ++ [.trip s.ctl.cfg.pRated s.intake.means.p])

/-- The measure timer's two ends (R6, R7, R12): at 15 ms GOOD becomes HELD with no flag and nothing else changed; at 40 ms GOOD
or HELD becomes FAULT with the timer stopped, the detector counts 0, READY deasserted, MEASURE raised and BIAS-VALID not asserted,
while UF and DEAD and the means stand (that GOOD passes through HELD there is log entry 23). With the timer below its time, as
when a sample taken first in the same instant has restarted it, neither is an event (R6, log entry 9). -/
def Obligations.MeasureTimerEnds : Prop :=
  ∀ (s : State) (n : Nat), s.intake.measureTimer = some n →
    (15000 ≤ n → s.intake.measure = .good → ∃ t, exec .measureTimerHeld s = .next t ∧
      t.intake = { s.intake with measure := .held } ∧ Kept [.intake] s t) ∧
    (40000 ≤ n → s.intake.measure ≠ .fault → ∃ t, exec .measureTimerFault s = .next t ∧
      t.intake = { s.intake with measure := .fault, measureTimer := none, ufCount := 0, deadCount := 0, ready := false } ∧
      flagOf t .measure = true ∧ (s.intake.ready = true → flagOf t .engineReady = true) ∧ t.ls.biasValid = false ∧
      t.ctl = s.ctl ∧ t.demand = s.demand ∧ t.view.peers = s.view.peers) ∧
    (n < 15000 → exec .measureTimerHeld s = .next s) ∧ (n < 40000 → exec .measureTimerFault s = .next s)

/-- TRANSIT_TIMEOUT (R10, R11, R100): a breaker in TRANSIT becomes FAULT, its settled state kept; BREAKER is raised for the set
and the tie breaker, GROUP for a group breaker, whose group becomes FAULT unless ABSENT; no other breaker changes. The command
is taken as the timer's end at any count of a running timer (log entry 4). -/
def Obligations.TransitTimeoutFaultsBreaker : Prop :=
  ∀ s : State,
    (s.intake.setBreaker.inTransit = true → ∃ t, exec (.transitTimeout .set) s = .next t ∧
      t.intake = { s.intake with
        setBreaker := { decoded := .fault, settled := s.intake.setBreaker.settled, transit := none } } ∧
      RaisedOnly [.breaker] s t ∧ Kept [.intake, .port] s t) ∧
    (∀ g : GroupNo, s.intake.groupBreakers[g].inTransit = true → ∃ t, exec (.transitTimeout (.group g)) s = .next t ∧
      t.intake = { s.intake with groupBreakers := t.intake.groupBreakers } ∧
      t.intake.groupBreakers[g] =
        { decoded := .fault, settled := s.intake.groupBreakers[g].settled, transit := none } ∧
      (∀ h : GroupNo, h ≠ g → t.intake.groupBreakers[h] = s.intake.groupBreakers[h] ∧
        t.shed.groups[h] = s.shed.groups[h]) ∧
      t.shed.groups[g].state = (if s.shed.groups[g].state = .absent then .absent else .fault) ∧
      t.shed.groups[g].output = s.shed.groups[g].output ∧ t.shed.groups[g].remembered = s.shed.groups[g].remembered ∧
      t.shed.cut = s.shed.cut ∧ t.intake.setBreaker = s.intake.setBreaker ∧
      RaisedOnly [.group] s t ∧ Kept [.intake, .shed, .port] s t) ∧
    (s.intake.tieBreaker.inTransit = true → ∃ t, exec (.transitTimeout .tie) s = .next t ∧
      t.intake = { s.intake with
        tieBreaker := { decoded := .fault, settled := s.intake.tieBreaker.settled, transit := none } } ∧
      flagOf t .breaker = true ∧ t.view.tieClosed = t.derivedTie ∧ t.ctl = s.ctl ∧ t.demand = s.demand)

/-- The detectors (R13, R14). UF: from a clear flag and a count of 0, samples below f_uf in a row leave it clear until N_uf of
them have come, and the last of N_uf sets it with the count 0; a set flag clears likewise after N_uf samples at or above f_uf +
hyst; any other sample zeros the count. DEAD: eight samples below round(V_nom × v_dead / 10000) set it, eight at or above clear
it. SAMPLE_ARRIVAL takes both flags and counts one sample further, DEAD on a feeder station alone; where DEAD sets, the cut rank
of a feeder station in LISTEN, RUN, FALLBACK or SILENT is 15 (R112), raised from below with SHED-STEP and a SHED ALERT of cause
DEAD, and at 15 nothing changes. -/
def Obligations.UnderFrequencyNeedsRun : Prop :=
  (∀ (c : Settings) (fs : List Int), 1 ≤ c.nUf → (∀ f ∈ fs, f < c.fUf) →
    (fs.length < c.nUf →
      fs.foldl (fun d f => detectUf c f d.1 d.2) (false, 0) = (false, fs.length)) ∧
    (fs.length = c.nUf → fs.foldl (fun d f => detectUf c f d.1 d.2) (false, 0) = (true, 0))) ∧
  (∀ (c : Settings) (fs : List Int), 1 ≤ c.nUf → (∀ f ∈ fs, c.fUf + c.hyst ≤ f) →
    (fs.length < c.nUf →
      fs.foldl (fun d f => detectUf c f d.1 d.2) (true, 0) = (true, fs.length)) ∧
    (fs.length = c.nUf → fs.foldl (fun d f => detectUf c f d.1 d.2) (true, 0) = (false, 0))) ∧
  (∀ (c : Settings) (f : Int) (n : Nat),
    (c.fUf ≤ f → detectUf c f false n = (false, 0)) ∧ (f < c.fUf + c.hyst → detectUf c f true n = (true, 0))) ∧
  (∀ (c : Settings) (vs : List Int),
    ((∀ v ∈ vs, v < roundDiv (c.vNom * c.vDead) 10000) →
      (vs.length < 8 → vs.foldl (fun d v => detectDead c v d.1 d.2) (false, 0) = (false, vs.length)) ∧
      (vs.length = 8 → vs.foldl (fun d v => detectDead c v d.1 d.2) (false, 0) = (true, 0))) ∧
    ((∀ v ∈ vs, roundDiv (c.vNom * c.vDead) 10000 ≤ v) →
      (vs.length < 8 → vs.foldl (fun d v => detectDead c v d.1 d.2) (true, 0) = (true, vs.length)) ∧
      (vs.length = 8 → vs.foldl (fun d v => detectDead c v d.1 d.2) (true, 0) = (false, 0)))) ∧
  (∀ (c : Settings) (v : Int) (n : Nat),
    (roundDiv (c.vNom * c.vDead) 10000 ≤ v → detectDead c v false n = (false, 0)) ∧
    (v < roundDiv (c.vNom * c.vDead) 10000 → detectDead c v true n = (true, 0))) ∧
  (∀ (bytes : List Byte) (order : List SamplePart) (s : State) (x : Sample), s.ctl.station.active = true →
    parseSample s.ctl.straps.role bytes = some x → ∃ t, exec (.sampleArrival bytes order) s = .next t ∧
      (t.intake.uf, t.intake.ufCount) = detectUf s.ctl.cfg x.f s.intake.uf s.intake.ufCount ∧
      (s.isGenset = true → t.intake.dead = s.intake.dead ∧ t.intake.deadCount = s.intake.deadCount) ∧
      (s.isFeeder = true →
        (t.intake.dead, t.intake.deadCount) = detectDead s.ctl.cfg x.v s.intake.dead s.intake.deadCount ∧
        (s.intake.dead = false → t.intake.dead = true → s.shed.cut < 15 →
          t.shed.cut = 15 ∧ t.shed.settle = some 0 ∧ flagOf t .shedStep = true))) ∧
  (∀ s : State, s.isFeeder = true → s.ctl.station.active = true →
    (15 ≤ s.shed.cut → deadEntry s = s) ∧
    (s.shed.cut < 15 → (deadEntry s).shed.cut = 15 ∧
      (s.ctl.station.transmits = true → s.link.alerts.length < 4 →
        (deadEntry s).link.alerts = s.link.alerts ++ [.shed 15 .dead]) ∧
      (s.ctl.station.transmits = false → (deadEntry s).link.alerts = s.link.alerts)))

/-! ### The share-timer expiry -/

/-- SHARE_TIMER_EXPIRY (R4, R144): outside LISTEN, RUN, FALLBACK and SILENT it is no event (log entry 9); in them the share
timer starts again and intake closes the period: the sums become 0, and with samples in the period each mean is the quotient
rounded to the nearest integer, halves away from zero (spec 4.3); with none the means stand. The staged set (R153, R154): with
HOLD clear every staged value of the ten tunables is the working value, the others stand, and the set is empty; with HOLD set
nothing is applied; the structural settings stand. The expiry is taken at any count of the running share timer (log entry 4). -/
def Obligations.ExpiryClosesPeriodAndAppliesStagedSet : Prop :=
  (∀ (order : List ExpiryPart) (s : State),
    (s.ctl.station.active = false → exec (.shareTimerExpiry order) s = .next s) ∧
    (s.ctl.station.active = true → ∃ t, exec (.shareTimerExpiry order) s = .next t ∧
      t.ctl.shareTimer = some 0 ∧ t.intake.sums = PeriodSums.zero ∧ t.intake.measure = s.intake.measure ∧
      t.intake.latest = s.intake.latest ∧
      (s.intake.sums.n = 0 → t.intake.means = s.intake.means) ∧
      (1 ≤ s.intake.sums.n →
        IsRounded t.intake.means.p s.intake.sums.p s.intake.sums.n ∧
        IsRounded t.intake.means.q s.intake.sums.q s.intake.sums.n ∧
        IsRounded t.intake.means.f s.intake.sums.f s.intake.sums.n ∧
        IsRounded t.intake.means.v s.intake.sums.v s.intake.sums.n ∧
        ∀ g : GroupNo, IsRounded t.intake.means.loads[g] s.intake.sums.loads[g] s.intake.sums.n))) ∧
  (∀ (order : List ExpiryPart) (s : State), s.ctl.station.active = true →
    ∃ t, exec (.shareTimerExpiry order) s = .next t ∧ sameIdentity s t ∧ t.ctl.hold = s.ctl.hold ∧
      (s.ctl.hold = true → t.ctl.cfg.tun = s.ctl.cfg.tun ∧ t.ctl.staged = s.ctl.staged) ∧
      (s.ctl.hold = false → t.ctl.staged = Staged.empty ∧
        t.ctl.cfg.tun.ks = s.ctl.staged.ks.getD s.ctl.cfg.tun.ks ∧
        t.ctl.cfg.tun.kf = s.ctl.staged.kf.getD s.ctl.cfg.tun.kf ∧
        t.ctl.cfg.tun.kq = s.ctl.staged.kq.getD s.ctl.cfg.tun.kq ∧
        t.ctl.cfg.tun.kv = s.ctl.staged.kv.getD s.ctl.cfg.tun.kv ∧
        t.ctl.cfg.tun.mode = s.ctl.staged.mode.getD s.ctl.cfg.tun.mode ∧
        t.ctl.cfg.tun.baseSetpoint = s.ctl.staged.baseSetpoint.getD s.ctl.cfg.tun.baseSetpoint ∧
        t.ctl.cfg.tun.startPct = s.ctl.staged.startPct.getD s.ctl.cfg.tun.startPct ∧
        t.ctl.cfg.tun.stopPct = s.ctl.staged.stopPct.getD s.ctl.cfg.tun.stopPct ∧
        t.ctl.cfg.tun.restoreMargin = s.ctl.staged.restoreMargin.getD s.ctl.cfg.tun.restoreMargin ∧
        t.ctl.cfg.tun.captureArmed = s.ctl.staged.captureArmed.getD s.ctl.cfg.tun.captureArmed))

/-- Aging at an expiry (R41): every entry of the table after it comes from one before it, one period older, FRESH to age 2,
STALE to age 7 and LOST from age 8; an INCOMPATIBLE entry stays so below age 8 and is removed at age 8; no other is removed. The
expiry is taken at any count of the running share timer (log entry 4). -/
def Obligations.ExpiryAgesPeers : Prop :=
  ∀ (order : List ExpiryPart) (s : State), s.ctl.station.active = true →
    ∃ t, exec (.shareTimerExpiry order) s = .next t ∧
      (∀ e' ∈ t.view.peers, ∃ e ∈ s.view.peers, e'.address = e.address ∧ e'.age = min (e.age + 1) 255 ∧
        e'.role = e.role ∧ e'.sect = e.sect ∧ e'.body = e.body ∧ e'.tripped = e.tripped ∧
        (e.state = .incompatible → e'.state = .incompatible ∧ e'.age < 8) ∧
        (e.state ≠ .incompatible → e'.state = (if e'.age ≤ 2 then .fresh else if e'.age ≤ 7 then .stale else .lost))) ∧
      (∀ e ∈ s.view.peers, (e.state ≠ .incompatible ∨ e.age + 1 < 8) →
        ∃ e' ∈ t.view.peers, e'.address = e.address ∧ e'.age = min (e.age + 1) 255)

/-- The commands that name an expiry at which a count reaches its end are that whole expiry when the count does reach it, and no
event otherwise (log entry 5). The expiry is taken at any count of the running share timer (log entry 4). -/
def Obligations.NamedExpiriesAreExpiries : Prop :=
  ∀ (order : List ExpiryPart) (s : State) (c : Instr) (e : ExpiryEvent),
    (c, e) ∈ [(Instr.listenEnd order, ExpiryEvent.listenEnd), (.fallbackExit order, .fallbackExit),
      (.startAttemptTimeout order, .attemptTimeout), (.stopNeedExpiry order, .stopNeed),
      (.settleTimerExpiry order, .settled), (.ladderStep order, .ladder), (.restorationStep order, .restoration)] →
    exec c s = (if s.ctl.station.active = true ∧ e ∈ (expiryRun order s).events then exec (.shareTimerExpiry order) s
                else .next s)

/-- LISTEN_END (R24, R57, R147): at the eighth expiry in LISTEN the station enters RUN with the counter 0 and a state frame
requested; a set already on the bus is taken up with UNIT raised. FALLBACK_EXIT (R149): at the fourth healthy expiry in a row
the station enters RUN, the counter becomes 0 and LINK is raised; the error count, the last outcome and the frame in flight
stand. The expiry is taken at any count of the running share timer (log entry 4). -/
def Obligations.ExpiriesThatEnterRun : Prop :=
  (∀ (order : List ExpiryPart) (s : State), s.ctl.station = .listen → 7 ≤ s.ctl.listenCount →
    ∃ t, exec (.listenEnd order) s = .next t ∧ t.ctl.station = .run ∧ t.ctl.listenCount = 0 ∧
      t.link.statePending = true ∧ t.link.flight = none ∧ t.link.errors = 0 ∧ t.link.outcome = .none ∧
      (s.isGenset = true → s.ls.unit = .offline → s.intake.setBreaker.settled = .closed →
        t.ls.unit.onBus = true ∧ flagOf t .unit = true)) ∧
  (∀ (order : List ExpiryPart) (s : State), s.ctl.station = .fallback → 3 ≤ s.ctl.fallbackCount →
    s.link.outcome = .success → (s.view.peers = [] ∨ ∃ e ∈ s.view.peers, e.state ≠ .incompatible ∧ e.age ≤ 1) →
    ∃ t, exec (.fallbackExit order) s = .next t ∧ t.ctl.station = .run ∧ t.ctl.fallbackCount = 0 ∧
      flagOf t .link = true ∧ t.link.errors = s.link.errors ∧ t.link.flight = s.link.flight ∧
      t.link.outcome = s.link.outcome)

/-- START_ATTEMPT_TIMEOUT (R58, R91, R92): START is released, the timer stops, the lockout sets, START-FAIL is raised, and a
STARTING unit becomes OFFLINE with UNIT raised. STOP_NEED_EXPIRY (R73, R93, R94), the demand unit working first after the test
point: when its stop condition has held for stop_delay and the ramp-out request is taken, the set enters RAMP-OUT from its load
of that moment with UNIT raised, the stop-need timer is 0, and no work of that expiry ends the ramp. The expiries with another
order are those of NamedExpiriesAreExpiries. The start decision (R84 to R88): the start-need timer counts or becomes 0, and
exactly where the island has a start need and the own set is chosen START is asserted with the attempt from 0, STARTING and
UNIT; the expiry that takes it leaves the set so. The stop condition is the list of R93, and the stop-need timer follows it. The
expiry is taken at any count of the running share timer (log entry 4). -/
def Obligations.DemandTimersEnd : Prop :=
  (∀ (order : List ExpiryPart) (s : State) (n : Nat), s.isGenset = true → s.ctl.station.working = true →
    s.demand.attempt = some n → s.ctl.cfg.startTimeout ≤ n + 1 →
    ∃ t, exec (.startAttemptTimeout order) s = .next t ∧ t.demand.start = false ∧ t.demand.attempt = none ∧
      t.demand.lockout = true ∧ flagOf t .startFail = true ∧
      (s.ls.unit = .starting → t.ls.unit = .offline ∧ flagOf t .unit = true)) ∧
  (∀ (rest : List ExpiryPart) (s u : State), s.isGenset = true → s.ctl.station.active = true →
    u = beforeStop (testPoint { state := atTestPoint s, events := [] }).state → u.ctl.station = .run →
    u.stopDue = true → u.rampOutTaken = true → u.ctl.cfg.tun.stopPct ≤ 9000 → 0 ≤ u.ownCapacity →
    ∃ t, exec (.stopNeedExpiry (.demand :: rest)) s = .next t ∧ t.ls.unit = .rampOut ∧ t.ls.p0 = some u.pOwn ∧
      t.demand.stopNeed = 0 ∧ flagOf t .unit = true) ∧
  (∀ s t : State, startDecision s = t →
    t.demand.startNeed = (match s.view.sums.lf with
      | none => 0
      | some x => if s.ctl.cfg.tun.startPct < x then min (s.demand.startNeed + 1) s.ctl.cfg.startDelay else 0) ∧
    (startWanted s t.demand.startNeed → ownChosen s →
      t.ls.unit = .starting ∧ t.demand.start = true ∧ t.demand.attempt = some 0 ∧ flagOf t .unit = true ∧
      Kept [.ls, .demand, .port] s t) ∧
    (¬ (startWanted s t.demand.startNeed ∧ ownChosen s) →
      t = { s with demand := { s.demand with startNeed := t.demand.startNeed } })) ∧
  (∀ (rest : List ExpiryPart) (s u : State), s.isGenset = true → s.ctl.station.active = true →
    u = attemptWork (testPoint { state := atTestPoint s, events := [] }).state → u.ctl.station = .run →
    startWanted u (startDecision u).demand.startNeed → ownChosen u →
    ∃ t, exec (.shareTimerExpiry (.demand :: rest)) s = .next t ∧ t.ls.unit = .starting ∧ t.demand.start = true ∧
      t.demand.attempt = some 0 ∧ flagOf t .unit = true) ∧
  (∀ s : State, (s.stopCondition = true ↔ stopHolds s) ∧
    (stopHolds s → s.demand.stopNeed + 1 < s.ctl.cfg.stopDelay →
      stopWork s = { s with demand := { s.demand with stopNeed := s.demand.stopNeed + 1 } }) ∧
    (¬ stopHolds s → stopWork s = { s with demand := { s.demand with stopNeed := 0 } }))

/-- SETTLE_TIMER_EXPIRY (R104, R105): at settle_delay the settle timer stops, unless an increase of the cut rank at the same
expiry starts it again from 0. LADDER_STEP (R109, R110, R111): at step_delay with UF set the step timer starts again from 0; in
SILENT, where coincidence is not asked, the cut rank rises by one with SHED-STEP raised and the settle timer started, and at 15
it stays. The expiry is taken at any count of the running share timer (log entry 4). -/
def Obligations.ShedTimersEnd : Prop :=
  (∀ (order : List ExpiryPart) (s : State) (n : Nat), s.ctl.station.active = true → s.shed.settle = some n →
    s.ctl.cfg.settleDelay ≤ n + 1 →
    ∃ t, exec (.settleTimerExpiry order) s = .next t ∧
      (t.shed.settle = none ∨ (t.shed.settle = some 0 ∧ s.shed.cut < t.shed.cut ∧ flagOf t .shedStep = true))) ∧
  (∀ (order : List ExpiryPart) (s : State) (n : Nat), s.isFeeder = true → s.ctl.station.active = true →
    s.shed.step = some n → s.ctl.cfg.stepDelay ≤ n + 1 → s.intake.uf = true →
    ∃ t, exec (.ladderStep order) s = .next t ∧ t.shed.step = some 0 ∧ s.shed.cut ≤ t.shed.cut ∧
      (s.ctl.station = .silent → s.shed.cut < 15 →
        t.shed.cut = s.shed.cut + 1 ∧ t.shed.settle = some 0 ∧ flagOf t .shedStep = true) ∧
      (s.ctl.station = .silent → 15 ≤ s.shed.cut → t.shed.cut = s.shed.cut))

/-- RESTORATION_STEP (R104, R116, R117), the shed unit working first after the test point: when its restore condition has held
for restore_delay the cut rank falls by one, the restore timer is 0, RESTORE-STEP is raised, and the outputs of the rank left
are released. The expiry is taken at any count of the running share timer (log entry 4). -/
def Obligations.RestorationLowersCutRank : Prop :=
  ∀ (rest : List ExpiryPart) (s u : State), s.ctl.station.active = true →
    u = (testPoint { state := atTestPoint s, events := [] }).state →
    (ladderWork (capacityWork (s.tieChangesTo (atTestPoint s)) (countSettle (rememberLoads u)))).restoreDue = true →
    ∃ t, exec (.restorationStep (.shed :: rest)) s = .next t ∧ t.shed.cut = s.shed.cut - 1 ∧ 1 ≤ s.shed.cut ∧
      t.shed.restore = 0 ∧ flagOf t .restoreStep = true ∧
      (∀ g : GroupNo, s.groupPresent g = true → s.ctl.cfg.rank[g] = s.shed.cut →
        s.shed.groups[g].output = true → s.shed.groups[g].state ≠ .absent → t.shed.groups[g].output = false)

/-! ### Timers -/

/-- CONFIRM_TIMEOUT (R101): a SHEDDING group whose confirm timer has reached confirm_time becomes SHED-FAILED, its output and its
remembered load kept, with GROUP raised and no other group changed; with the timer below confirm_time, as when an output released
and asserted first in the same instant has started it again, with the timer stopped, or in another state, it is no event (log
entry 9). -/
def Obligations.ConfirmTimeoutFailsGroup : Prop :=
  ∀ (g : GroupNo) (s : State),
    (∀ n, s.shed.groups[g].state = .shedding → s.shed.groups[g].confirm = some n → 1000 * s.ctl.cfg.confirmTime ≤ n →
      ∃ t, exec (.confirmTimeout g) s = .next t ∧
        t.shed.groups[g] = { s.shed.groups[g] with state := .shedFailed, confirm := none } ∧
        (∀ h : GroupNo, h ≠ g → t.shed.groups[h] = s.shed.groups[h]) ∧ t.shed.cut = s.shed.cut ∧
        t.shed.settle = s.shed.settle ∧ t.shed.step = s.shed.step ∧ t.shed.restore = s.shed.restore ∧
        RaisedOnly [.group] s t ∧ Kept [.shed, .port] s t) ∧
    (∀ n, s.shed.groups[g].confirm = some n → n < 1000 * s.ctl.cfg.confirmTime → exec (.confirmTimeout g) s = .next s) ∧
    (s.shed.groups[g].confirm = none → exec (.confirmTimeout g) s = .next s) ∧
    (s.shed.groups[g].state ≠ .shedding → exec (.confirmTimeout g) s = .next s)

/-- TRIP_TIMEOUT and STOP_PULSE_END (R77, R79): TRIP is released, its timer stops, the trip-failed mark sets and BREAKER is
raised, the unit staying as it is; a stop pulse ends with STOP released and no flag. TIME_TAG_WRAP and ATTENTION_PULSE_END
(R123, R173): the tag becomes 0 and its overflow flag sets, the slots and the counter standing; with the pulse at its 10
microseconds the attention line falls, the change word standing, and a pulse that a raise has restarted goes on. The first three
are taken as the end of a timer that runs, at any count (log entry 4). In PULSE mode (R173) a raise that takes an enabled flag
from clear to set asserts the line with the pulse from 0, any other raise leaves line and pulse, and a clearing leaves them;
STORE_COMPLETION shows it through a command. -/
def Obligations.RealTimeTimersEnd : Prop :=
  (∀ s : State,
    (s.ls.trip = true → s.ls.tripTimer ≠ none → ∃ t, exec .tripTimeout s = .next t ∧
      t.ls = { s.ls with trip := false, tripTimer := none, tripFailed := true } ∧
      RaisedOnly [.breaker] s t ∧ Kept [.ls, .port] s t) ∧
    (s.ls.stopTimer ≠ none → ∃ t, exec .stopPulseEnd s = .next t ∧
      t.ls = { s.ls with stop := false, stopTimer := none } ∧ Kept [.ls] s t)) ∧
  (∀ s : State,
    (s.ctl.station.active = true → ∃ t, exec .timeTagWrap s = .next t ∧ t.cap.tag = 0 ∧ t.cap.overflow = true ∧
      t.cap.slots = s.cap.slots ∧ t.cap.readyList = s.cap.readyList ∧ t.cap.counter = s.cap.counter ∧ Kept [.cap] s t) ∧
    (∀ n, s.port.pulse = some n → 10 ≤ n → ∃ t, exec .attentionPulseEnd s = .next t ∧
      t.port = { s.port with attention := false, pulse := none } ∧ Kept [.port] s t) ∧
    (∀ n, s.port.pulse = some n → n < 10 → exec .attentionPulseEnd s = .next s)) ∧
  (∀ (f : ChangeFlag) (s : State), s.ctl.cfg.attentionMode = .pulse →
    flagOf (raise f s) f = true ∧ (∀ g, g ≠ f → flagOf (raise f s) g = flagOf s g) ∧
    (flagOf s f = false → flagSet s.ctl.cfg.attentionMask f = true →
      (raise f s).port.attention = true ∧ (raise f s).port.pulse = some 0) ∧
    ((flagOf s f = true ∨ flagSet s.ctl.cfg.attentionMask f = false) →
      (raise f s).port.attention = s.port.attention ∧ (raise f s).port.pulse = s.port.pulse) ∧
    (∀ w, (clearFlags w s).port.attention = s.port.attention ∧ (clearFlags w s).port.pulse = s.port.pulse)) ∧
  (∀ s : State, s.ctl.store ≠ .idle → s.ctl.cfg.attentionMode = .pulse → ∃ t, exec .storeCompletion s = .next t ∧
    (flagOf s .storeDone = false → flagSet s.ctl.cfg.attentionMask .storeDone = true →
      t.port.attention = true ∧ t.port.pulse = some 0) ∧
    ((flagOf s .storeDone = true ∨ flagSet s.ctl.cfg.attentionMask .storeDone = false) →
      t.port.attention = s.port.attention ∧ t.port.pulse = s.port.pulse))

/-! ### The share link -/

/-- The line monitor (R18, R31): twelve recessive bit times make it IDLE and end a reception; a dominant bit of another station
makes it BUSY with the count 0, and from IDLE begins a reception in LISTEN, RUN, FALLBACK and SILENT only. A frame dropped by a
check of R32 at a station that does not drive changes the line monitor only; so does any frame in INIT or STANDBY, or whose
start bit was not taken, be the line IDLE or BUSY by then (R31): after such a frame the line is BUSY with the count 0 at its last
end bit, the end bits not among the twelve (R36), and after one that breaks off the count goes on from where a check fails (R18).
The checks of R32: a check field that is not that of R21, a dominant bit among the eight end bits, and seven equal levels in the
stuffed region each drop the frame. That the part follows a frame it does not take so, in STANDBY and LISTEN as well, is log entry
39; that a station driving a frame has no idle line is log entry 22. -/
def Obligations.LineMonitorAndDroppedFrames : Prop :=
  (∀ s : State,
    (s.link.flight = none → ∃ t, exec .lineIdle s = .next t ∧
      t.link = { s.link with monitor := .idle, recessive := 12, receiving := false } ∧ Kept [.link] s t) ∧
    (∃ t, exec .lineBusy s = .next t ∧ t.link.monitor = .busy ∧ t.link.recessive = 0 ∧
      (s.link.monitor = .idle → s.link.receiving = false → t.link.receiving = s.ctl.station.active) ∧
      (s.link.monitor = .busy → t.link.receiving = s.link.receiving) ∧
      t.link.alerts = s.link.alerts ∧ t.link.flight = s.link.flight ∧ t.link.statePending = s.link.statePending ∧
      t.link.errors = s.link.errors ∧ t.link.outcome = s.link.outcome ∧ Kept [.link] s t)) ∧
  (∀ (line : List Bool) (first : Bool) (s : State),
    (∀ n, s.ctl.station.active = true → s.link.receiving = true →
      s.link.flight = none → receive line = .dropped n → ∃ t, exec (.frameReceived line first) s = .next t ∧
        t.link = { s.link with monitor := .busy, recessive := n, receiving := false } ∧ Kept [.link] s t) ∧
    ((s.ctl.station.active = false ∨ s.link.receiving = false) → ∃ t, exec (.frameReceived line first) s = .next t ∧
      t.link = { s.link with monitor := t.link.monitor, recessive := t.link.recessive } ∧ Kept [.link] s t) ∧
    ((s.ctl.station.active = false ∨ s.link.receiving = false) →
      (∀ n, receive line = .dropped n → ∃ t, exec (.frameReceived line first) s = .next t ∧
        t.link = { s.link with monitor := .busy, recessive := n } ∧ Kept [.link] s t) ∧
      (∀ (f : Frame) (rest : List Bool), frameOk f → line = f.levels ++ rest →
        ∃ t, exec (.frameReceived line first) s = .next t ∧
          t.link = { s.link with monitor := .busy, recessive := 0 } ∧ Kept [.link] s t))) ∧
  (∀ (f : Frame) (rest : List Bool),
    (∀ check : List Bool, check.length = 16 → check ≠ natBits 16 (crc16 f.checked).toNat →
      receive (stuff (false :: (f.checked ++ check)) ++ List.replicate 8 true ++ rest) = .dropped 0) ∧
    (∀ k, k < 8 → receive (stuff f.region ++ List.replicate k true ++ false :: rest) = .dropped 0) ∧
    (∀ (before after : List Bool) (level : Bool), stuff f.region = before ++ after → before ≠ [] →
      before.length + 7 ≤ f.region.length →
      receive (before ++ List.replicate 7 level ++ rest) = .dropped (if level then 7 else 0)))

/-- FRAME_START (R22, R23, R24, R26, R27): in RUN or FALLBACK with the line IDLE, the alert at the head is begun if there is
one, and stays in the queue; else the state frame, if one is pending, whose mark moves from pending to in flight. The frame
carries the strapped address and section. Its arbitration field with the start bit is seven levels, eight where a stuff bit
falls within it. That the line is BUSY with the frame's start is log entry 21. -/
def Obligations.FrameStartSendsAlertFirst : Prop :=
  ∀ s : State, s.ctl.station.transmits = true → s.link.monitor = .idle → s.link.flight = none →
    (∀ (a : Alert) (rest : List Alert), s.link.alerts = a :: rest → ∃ t fl, exec .frameStart s = .next t ∧
      t.link.flight = some fl ∧ fl.isAlert = true ∧
      fl.levels = Frame.levels { source := s.ctl.straps.address, sect := s.ctl.straps.sect, period := s.ctl.cfg.period,
                                 body := .alert a } ∧
      fl.arbitration = (match a with
        | .trip _ _ => if s.ctl.straps.address.val ≤ 1 then 8 else 7
        | .shed _ _ => 7) ∧
      t.link.alerts = s.link.alerts ∧ t.link.statePending = s.link.statePending ∧ t.link.monitor = .busy ∧
      Kept [.link] s t) ∧
    (s.link.alerts = [] → s.link.statePending = true → ∃ t fl f, exec .frameStart s = .next t ∧
      t.link.flight = some fl ∧ fl.isAlert = false ∧ fl.levels = Frame.levels f ∧ fl.arbitration = 7 ∧
      f.source = s.ctl.straps.address ∧ f.sect = s.ctl.straps.sect ∧ f.period = s.ctl.cfg.period ∧ f.body = s.stateBody ∧
      t.link.statePending = false ∧ t.link.stateInFlight = true ∧ t.link.monitor = .busy ∧ Kept [.link] s t) ∧
    (s.link.alerts = [] → s.link.statePending = false → exec .frameStart s = .next s)

/-- ARBITRATION_LOSS (R23, R28): the station stops driving; an alert stays at the head, a state frame is pending again; the
error count and the last outcome stand. TRANSMIT_ERROR (R28, R29, R148): the frame is abandoned, the count rises to at most 4
and the last outcome is ERROR; from 3 to 4 in RUN the station enters FALLBACK with LINK raised and BIAS-VALID not asserted;
otherwise its state stands. -/
def Obligations.FrameOutcomes : Prop :=
  (∀ (s : State) (fl : Flight), s.link.flight = some fl → ∃ t, exec .arbitrationLoss s = .next t ∧
    t.link.flight = none ∧ t.link.alerts = s.link.alerts ∧ t.link.errors = s.link.errors ∧
    t.link.outcome = s.link.outcome ∧
    (fl.isAlert = true → t.link.statePending = s.link.statePending) ∧
    (fl.isAlert = false → t.link.statePending = true ∧ t.link.stateInFlight = false) ∧ Kept [.link] s t) ∧
  (∀ (s : State) (fl : Flight), s.link.flight = some fl → ∃ t, exec .transmitError s = .next t ∧
    t.link.flight = none ∧ t.link.errors = min (s.link.errors + 1) 4 ∧ t.link.outcome = .error ∧
    t.link.statePending = s.link.statePending ∧
    t.link.alerts = (if fl.isAlert then s.link.alerts.tail else s.link.alerts) ∧
    (s.link.errors = 3 → s.ctl.station = .run →
      t.ctl.station = .fallback ∧ t.ctl.fallbackCount = 0 ∧ flagOf t .link = true ∧ t.ls.biasValid = false ∧
      t.demand.startNeed = 0 ∧ t.demand.stopNeed = 0 ∧ t.shed.restore = 0 ∧ t.shed.cut = s.shed.cut) ∧
    ((s.link.errors ≠ 3 ∨ s.ctl.station ≠ .run) → Kept [.link] s t))

/-- The station's own frame read back as sent (R28, R29, R33): transmit success, its alert leaving the queue or its in-flight
mark clearing, the count 0, and nothing handed on to any block. -/
def Obligations.OwnFrameIsSuccess : Prop :=
  ∀ (f : Frame) (first isAlert : Bool) (arb : Nat) (s : State), frameOk f → s.ctl.station.active = true →
    s.link.receiving = true → s.link.flight = some { isAlert := isAlert, arbitration := arb, levels := f.levels } →
    ∃ t, exec (.frameReceived f.levels first) s = .next t ∧ t.link.flight = none ∧ t.link.errors = 0 ∧
      t.link.outcome = .success ∧ t.link.statePending = s.link.statePending ∧
      t.link.alerts = (if isAlert then s.link.alerts.tail else s.link.alerts) ∧
      (isAlert = false → t.link.stateInFlight = false) ∧ Kept [.link] s t

/-- A valid frame bearing the own address that the station did not send is an address clash (R35, R150): in LISTEN, RUN and
FALLBACK it raises CLASH and the station enters SILENT with nothing held to send; in SILENT it is dropped without a flag. -/
def Obligations.AddressClashSilences : Prop :=
  ∀ (f : Frame) (first : Bool) (s : State), frameOk f → f.source = s.ctl.straps.address →
    s.link.receiving = true → s.link.flight = none →
    ((s.ctl.station = .listen ∨ s.ctl.station = .run ∨ s.ctl.station = .fallback) →
      ∃ t, exec (.frameReceived f.levels first) s = .next t ∧ t.ctl.station = .silent ∧ flagOf t .clash = true ∧
        t.ctl.listenCount = 0 ∧ t.ctl.fallbackCount = 0 ∧ t.link.alerts = [] ∧ t.link.statePending = false ∧
        t.link.errors = 0 ∧ t.link.outcome = .none ∧ t.ls.biasValid = false ∧ t.view = s.view ∧
        t.shed.cut = s.shed.cut ∧ t.cap = s.cap ∧ t.intake = s.intake) ∧
    (s.ctl.station = .silent → ∃ t, exec (.frameReceived f.levels first) s = .next t ∧ Kept [.link] s t)

/-- A state frame of a peer of own period is its entry afterwards (R34, R38): role from the class, section and period from the
frame, FRESH with age 0 and the frame's body; the entries of other addresses stand; a GEN-STATE clears the TRIPPED mark and sets
heard-since-alert. A GEN-STATE at an address that held no FEEDER entry changes nothing outside the table and the line. -/
def Obligations.StateFrameFillsPeerEntry : Prop :=
  ∀ (f : Frame) (first : Bool) (s : State), frameOk f → f.source ≠ s.ctl.straps.address →
    f.period = s.ctl.cfg.period → s.ctl.station.active = true → s.link.receiving = true →
    s.link.flight = none → peersOk s →
    (∀ b, f.body = .gen b → ∃ t e, exec (.frameReceived f.levels first) s = .next t ∧
      findPeer t.view.peers f.source = some e ∧ e.role = .genset ∧ e.sect = f.sect ∧ e.period = f.period ∧
      e.state = .fresh ∧ e.age = 0 ∧ e.body = .gen b ∧ e.tripped = false ∧ e.heard = true ∧
      (∀ a, a ≠ f.source → findPeer t.view.peers a = findPeer s.view.peers a) ∧
      ((∀ e0, findPeer s.view.peers f.source = some e0 → e0.role ≠ .feeder) →
        t.view.sums = s.view.sums ∧ t.view.tieClosed = s.view.tieClosed ∧ Kept [.link, .view] s t)) ∧
    (∀ b, f.body = .feed b → ∃ t e, exec (.frameReceived f.levels first) s = .next t ∧
      findPeer t.view.peers f.source = some e ∧ e.role = .feeder ∧ e.sect = f.sect ∧ e.period = f.period ∧
      e.state = .fresh ∧ e.age = 0 ∧ e.body = .feed b ∧ t.view.tieClosed = t.derivedTie ∧
      (∀ a, a ≠ f.source → findPeer t.view.peers a = findPeer s.view.peers a))

/-- A frame of a differing share period code makes its entry INCOMPATIBLE with no body (R34, R39): role by the class, a SHED ALERT
keeping the role of an entry and giving UNKNOWN to a new one; every other entry stands. LINK is raised unless the entry was
INCOMPATIBLE already, and nothing else is done but that, where the entry had role FEEDER, the tie state is derived (R44); where
the tie state does not change by that, only the line, the entry and LINK have changed. -/
def Obligations.OtherPeriodMakesIncompatible : Prop :=
  ∀ (f : Frame) (first : Bool) (s : State), frameOk f → f.source ≠ s.ctl.straps.address →
    f.period ≠ s.ctl.cfg.period → s.ctl.station.active = true → s.link.receiving = true →
    s.link.flight = none → peersOk s →
    ∃ t e, exec (.frameReceived f.levels first) s = .next t ∧ findPeer t.view.peers f.source = some e ∧
      e.address = f.source ∧ e.state = .incompatible ∧ e.age = 0 ∧ e.body = .none ∧ e.sect = f.sect ∧
      e.period = f.period ∧ e.tripped = false ∧ e.transfer = none ∧ e.heard = false ∧
      (∀ b, f.body = .gen b → e.role = .genset) ∧ (∀ b, f.body = .feed b → e.role = .feeder) ∧
      (∀ r p, f.body = .alert (.trip r p) → e.role = .genset) ∧
      (∀ c x, f.body = .alert (.shed c x) →
        e.role = (match findPeer s.view.peers f.source with | some e0 => e0.role | none => .unknown)) ∧
      (∀ a, a ≠ f.source → findPeer t.view.peers a = findPeer s.view.peers a) ∧
      ((∀ e0, findPeer s.view.peers f.source = some e0 → e0.state ≠ .incompatible) → flagOf t .link = true) ∧
      t.ctl = s.ctl ∧ t.intake = s.intake ∧ t.demand = s.demand ∧
      ((∀ e0, findPeer s.view.peers f.source = some e0 → e0.role ≠ .feeder) → t.view.tieClosed = s.view.tieClosed) ∧
      ((∃ e0, findPeer s.view.peers f.source = some e0 ∧ e0.role = .feeder) → t.view.tieClosed = t.derivedTie) ∧
      (t.view.tieClosed = s.view.tieClosed →
        t.link = { s.link with monitor := .busy, recessive := 0, receiving := false } ∧
        t.view.sums = s.view.sums ∧ t.view.ownReported = s.view.ownReported ∧
        RaisedOnly (match findPeer s.view.peers f.source with
          | some e0 => if e0.state = .incompatible then [] else [.link]
          | none => [.link]) s t ∧ Kept [.link, .view, .port] s t)

/-- A TRIP ALERT arrival (R34, R40, R52): TRIP-HEARD is raised; the entry is a FRESH GENSET with the TRIPPED mark and the alert's
P mean as its pending transfer; heard-since-alert clears on every other GENSET entry and the own mark clears; the sums are
formed at once. That an entry which stands INCOMPATIBLE is taken so on a frame of own period is log entry 34. -/
def Obligations.TripAlertIsTaken : Prop :=
  ∀ (f : Frame) (first : Bool) (ratedKw p : Int) (s : State), frameOk f → f.body = .alert (.trip ratedKw p) →
    f.source ≠ s.ctl.straps.address → f.period = s.ctl.cfg.period → s.ctl.station.active = true →
    s.link.receiving = true → s.link.flight = none → peersOk s →
    ∃ t e, exec (.frameReceived f.levels first) s = .next t ∧ flagOf t .tripHeard = true ∧
      findPeer t.view.peers f.source = some e ∧ e.role = .genset ∧ e.state = .fresh ∧ e.age = 0 ∧ e.sect = f.sect ∧
      e.tripped = true ∧ e.transfer = some p ∧
      (∀ e' ∈ t.view.peers, e'.address ≠ f.source → e'.role = .genset → e'.heard = false) ∧
      t.view.ownReported = false ∧
      t.view.sums.d = t.view.sums.l - t.view.sums.c ∧ t.view.sums.l = t.ownLoad +
        total ((t.islandSets.filterMap PeerEntry.contribution).map Prod.fst) + t.transfers

/-- Adoption (R34, R40, R114, R115): a SHED ALERT of a peer of the island with a higher cut rank, in RUN, FALLBACK or SILENT,
raises the cut rank to its own with SHED-STEP raised and the settle timer from 0, and queues no alert; an equal or lower rank,
a peer outside the island, or LISTEN, leaves the cut rank, the groups and the flags as they were. That the frame of own
period of a peer whose entry stands INCOMPATIBLE is offered so is log entry 34. -/
def Obligations.ShedAlertIsAdopted : Prop :=
  ∀ (f : Frame) (first : Bool) (cut : Nat) (cause : ShedCause) (s : State), frameOk f →
    f.body = .alert (.shed cut cause) → f.source ≠ s.ctl.straps.address → f.period = s.ctl.cfg.period →
    s.ctl.station.active = true → s.link.receiving = true → s.link.flight = none →
    ∃ t, exec (.frameReceived f.levels first) s = .next t ∧ t.link.alerts = s.link.alerts ∧
      (s.ctl.station.working = true → s.inIsland f.sect = true → s.shed.cut < cut →
        t.shed.cut = cut ∧ t.shed.settle = some 0 ∧ t.shed.restore = 0 ∧ flagOf t .shedStep = true ∧
        ∀ g : GroupNo, s.groupPresent g = true → s.shed.groups[g].state ≠ .absent → s.shed.cut < s.ctl.cfg.rank[g] →
          s.ctl.cfg.rank[g] ≤ cut → t.shed.groups[g].output = true) ∧
      ((s.ctl.station.working = false ∨ s.inIsland f.sect = false ∨ cut ≤ s.shed.cut) → Kept [.link, .view] s t)

/-! ### Load sharing and shedding -/

/-- The load-share unit's work at an expiry (R65 to R75). An ONLINE set in SHARE mode with no deficit: each bias is the old one
moved by its rounded terms and clamped to its limit, and an actuator record carries both. In BASE mode the share term is that of
base_setpoint, with neither frequency nor reactive term; without sharers the share and reactive terms are 0; with BIAS-VALID
deasserted the biases stand. RAMP-IN: the counter rises, the target is round(p_avg × k / N_in), and at N_in, or without p_avg, the
set is ONLINE with counter and target cleared. RAMP-OUT: a deficit abandons it; else the counter rises to at most 2 × N_out, the
target falls in equal steps to unload, and TRIP is asserted by R75 with its timer from 0; a request just taken, TRIP asserted (log
entry 32) and the trip-failed mark hold the counter. -/
def Obligations.OnlineBiasUpdate : Prop :=
  (∀ (fresh : Bool) (s : State) (pAvg qAvg : Int), s.isGenset = true → s.ctl.station.working = true →
      s.ls.unit = .online → s.ls.biasValid = true → s.ctl.cfg.tun.mode = .share → s.view.sums.d ≤ 0 →
      s.view.sums.pAvg = some pAvg → s.view.sums.qAvg = some qAvg → 0 ≤ s.ctl.cfg.biasLimit → 0 ≤ s.ctl.cfg.vBiasLimit →
      ∃ t, loadShareWork fresh s = t ∧
        t.ls.speedBias = max (-s.ctl.cfg.biasLimit) (min s.ctl.cfg.biasLimit
          (s.ls.speedBias +
            roundDiv (s.ctl.cfg.tun.ks *
              (pAvg - max (-5000) (min 15000 (roundDiv (s.intake.means.p * 10000) s.ctl.cfg.pRated)))) 256 +
            roundDiv (s.ctl.cfg.tun.kf * roundDiv ((s.ctl.cfg.fNom - s.intake.means.f) * 10000) s.ctl.cfg.fNom) 256)) ∧
        t.ls.voltBias = max (-s.ctl.cfg.vBiasLimit) (min s.ctl.cfg.vBiasLimit
          (s.ls.voltBias +
            roundDiv (s.ctl.cfg.tun.kq *
              (qAvg - max (-5000) (min 15000 (roundDiv (s.intake.means.q * 10000) s.ctl.cfg.qRated)))) 256 +
            roundDiv (s.ctl.cfg.tun.kv * roundDiv ((s.ctl.cfg.vNom - s.intake.means.v) * 10000) s.ctl.cfg.vNom) 256)) ∧
        t.ls.actuator = { speedBias := t.ls.speedBias, voltBias := t.ls.voltBias, biasValid := true } ∧
        t.ls.unit = .online ∧ Kept [.ls] s t) ∧
  (∀ (fresh : Bool) (s : State) (ef ev pOwn : Int), s.isGenset = true → s.ctl.station.working = true →
    0 ≤ s.ctl.cfg.biasLimit → 0 ≤ s.ctl.cfg.vBiasLimit →
    ef = roundDiv ((s.ctl.cfg.fNom - s.intake.means.f) * 10000) s.ctl.cfg.fNom →
    ev = roundDiv ((s.ctl.cfg.vNom - s.intake.means.v) * 10000) s.ctl.cfg.vNom →
    pOwn = max (-5000) (min 15000 (roundDiv (s.intake.means.p * 10000) s.ctl.cfg.pRated)) →
    ∃ t, loadShareWork fresh s = t ∧ Kept [.ls, .port] s t ∧
      t.ls.actuator = { speedBias := t.ls.speedBias, voltBias := t.ls.voltBias, biasValid := t.ls.biasValid } ∧
      t.ls.biasValid = s.ls.biasValid ∧
      (s.ls.biasValid = false → t.ls.speedBias = s.ls.speedBias ∧ t.ls.voltBias = s.ls.voltBias) ∧
      (s.ls.biasValid = true → s.ctl.cfg.tun.mode = .base → s.ls.unit.onBus = true → s.view.sums.d ≤ 0 →
        t.ls.speedBias = limited s.ctl.cfg.biasLimit
          (s.ls.speedBias + roundDiv (s.ctl.cfg.tun.ks * (s.ctl.cfg.tun.baseSetpoint - pOwn)) 256) ∧
        t.ls.voltBias = limited s.ctl.cfg.vBiasLimit (s.ls.voltBias + roundDiv (s.ctl.cfg.tun.kv * ev) 256)) ∧
      (s.ls.biasValid = true → s.ctl.cfg.tun.mode = .share → s.ls.unit = .online → s.view.sums.pAvg = none →
        s.view.sums.qAvg = none →
        t.ls.speedBias = limited s.ctl.cfg.biasLimit (s.ls.speedBias + roundDiv (s.ctl.cfg.tun.kf * ef) 256) ∧
        t.ls.voltBias = limited s.ctl.cfg.vBiasLimit (s.ls.voltBias + roundDiv (s.ctl.cfg.tun.kv * ev) 256)) ∧
      (s.ls.unit = .rampIn →
        (∀ a x, s.view.sums.pAvg = some a → x = roundDiv (a * (s.ls.k + 1)) s.ctl.cfg.nIn →
          (s.ls.k + 1 < s.ctl.cfg.nIn → t.ls.unit = .rampIn ∧ t.ls.k = s.ls.k + 1 ∧ t.ls.target = some x) ∧
          (s.ctl.cfg.nIn ≤ s.ls.k + 1 →
            t.ls.unit = .online ∧ t.ls.k = 0 ∧ t.ls.target = none ∧ flagOf t .unit = true) ∧
          (s.ls.biasValid = true → s.ctl.cfg.tun.mode = .share →
            t.ls.speedBias = limited s.ctl.cfg.biasLimit (s.ls.speedBias +
              roundDiv (s.ctl.cfg.tun.ks * (x - pOwn)) 256 + roundDiv (s.ctl.cfg.tun.kf * ef) 256))) ∧
        (s.view.sums.pAvg = none →
          t.ls.unit = .online ∧ t.ls.k = 0 ∧ t.ls.target = none ∧ flagOf t .unit = true)) ∧
      (s.ls.unit = .rampOut → 0 < s.view.sums.d →
        t.ls.unit = .online ∧ t.ls.k = 0 ∧ t.ls.p0 = none ∧ t.ls.target = none ∧ t.ls.trip = false ∧
        t.ls.tripTimer = none ∧ t.ls.tripFailed = false ∧ flagOf t .unit = true) ∧
      (s.ls.unit = .rampOut → s.view.sums.d ≤ 0 → s.ls.trip = false → s.ls.tripFailed = false → fresh = false →
        ∀ p k x, s.ls.p0 = some p → k = min (s.ls.k + 1) (2 * s.ctl.cfg.nOut) →
          x = roundDiv (p * s.ctl.cfg.nOut - (p - s.ctl.cfg.unload) * (min k s.ctl.cfg.nOut : Nat)) s.ctl.cfg.nOut →
          t.ls.unit = .rampOut ∧ t.ls.k = k ∧ t.ls.p0 = some p ∧ t.ls.target = some x ∧
          (t.ls.trip = true ↔
            (s.ctl.cfg.nOut ≤ k ∧ pOwn ≤ s.ctl.cfg.unload + 200) ∨ k = 2 * s.ctl.cfg.nOut) ∧
          (t.ls.trip = true → t.ls.tripTimer = some 0) ∧ (t.ls.trip = false → t.ls.tripTimer = s.ls.tripTimer) ∧
          (s.ls.biasValid = true → s.ctl.cfg.tun.mode = .share →
            t.ls.speedBias = limited s.ctl.cfg.biasLimit (s.ls.speedBias +
              roundDiv (s.ctl.cfg.tun.ks * (x - pOwn)) 256 + roundDiv (s.ctl.cfg.tun.kf * ef) 256))) ∧
      (s.ls.unit = .rampOut → s.view.sums.d ≤ 0 → s.ls.trip = false → s.ls.tripFailed = false → fresh = true →
        s.ls.k = 0 → 1 ≤ s.ctl.cfg.nOut →
        t.ls.unit = .rampOut ∧ t.ls.k = 0 ∧ t.ls.target = s.ls.target ∧ t.ls.trip = false) ∧
      (s.ls.unit = .rampOut → s.view.sums.d ≤ 0 → s.ls.tripFailed = true →
        t.ls.unit = .rampOut ∧ t.ls.k = s.ls.k ∧ t.ls.target = some s.ctl.cfg.unload ∧ t.ls.trip = s.ls.trip) ∧
      (s.ls.unit = .rampOut → s.view.sums.d ≤ 0 → s.ls.trip = true → s.ls.tripFailed = false →
        t.ls.unit = .rampOut ∧ t.ls.k = s.ls.k ∧ t.ls.target = s.ls.target ∧ t.ls.trip = true ∧
        t.ls.tripTimer = s.ls.tripTimer))

/-- The capacity rule (R103, R104, R106): with a positive effective deficit and the cut rank below 15, the new cut rank is the
least rank above it whose cumulative relief covers the deficit, or 15 when none does; without one nothing changes. -/
def Obligations.CapacityRuleTakesLeastRank : Prop :=
  ∀ s t : State, evaluateCapacity s = t →
    (0 < s.effectiveDeficit → s.shed.cut < 15 →
      s.shed.cut < t.shed.cut ∧ t.shed.cut ≤ 15 ∧
      (t.shed.cut < 15 → s.effectiveDeficit ≤ relief s.view.sums.groups s.shed.cut t.shed.cut) ∧
      (∀ r, s.shed.cut < r → r < t.shed.cut → relief s.view.sums.groups s.shed.cut r < s.effectiveDeficit) ∧
      t.shed.settle = some 0 ∧ flagOf t .shedStep = true) ∧
    ((s.effectiveDeficit ≤ 0 ∨ 15 ≤ s.shed.cut) → t = s)

/-- The island sums (R46 to R49): L and C are the own row, the rows of the island's genset entries by the table of R46, and in L
the pending transfers that those entries hold; D is L less C; Lf is the quotient rounded to the nearest integer, halves away
from zero, when C is 1 or more and has no value otherwise. A station that holds no genset entry of its island sums its own row
alone. -/
def Obligations.IslandSumsBalance : Prop :=
  ∀ s t : State, formSums s = t →
    t.view.sums.d = t.view.sums.l - t.view.sums.c ∧
    (t.view.sums.c < 1 → t.view.sums.lf = none) ∧
    (1 ≤ t.view.sums.c → ∃ x, t.view.sums.lf = some x ∧ IsRounded x (t.view.sums.l * 10000) t.view.sums.c.toNat) ∧
    (∀ sets, sets = s.view.peers.filter (fun e =>
        decide (e.role = .genset) && (s.view.tieClosed || decide (e.sect = s.ctl.straps.sect))) →
      t.view.sums.l = (if s.isGenset = true ∧ s.ls.unit.onBus = true then s.intake.means.p else 0) +
        total (sets.map rowLoad) + total (sets.map (fun e => e.transfer.getD 0)) ∧
      t.view.sums.c = (if s.isGenset = true ∧ s.ls.unit.onBus = true then
          (if s.intake.measure = .fault then max s.intake.means.p 0
           else roundDiv (s.ctl.cfg.pRated * s.ctl.cfg.capLimit) 10000) else 0) +
        total (sets.map rowCapacity)) ∧
    (s.islandSets = [] → t.view.sums.l = s.ownLoad ∧ t.view.sums.c = s.ownCapacity) ∧ Kept [.view] s t

/-! ### The service port -/

/-- The order of judgment (R161, R162, R163): BUSY in INIT whatever the command, each of the eighteen and a code that names none;
else UNKNOWN for a code that names none; else BAD-LENGTH for each of the eighteen with a length that is not its own: 2 for
ACK-CHANGES, 78 for WRITE-CONFIG, 3 for STAGE, 0 for the rest. Each answer is its result byte alone and changes no other block
and no flag. -/
def Obligations.PortJudgesInOrder : Prop :=
  ∀ (code : Byte) (fields : List Byte) (s : State), noRestart s →
    (s.ctl.station = .init →
      (∀ c : Service, ∃ t, exec (c.command fields) s = .next t ∧ Answers .busy [] .plain t ∧ sameFlags s t ∧
        Kept [.port] s t) ∧
      ∃ t, exec (.unknownCommand code fields) s = .next t ∧ Answers .busy [] .plain t ∧ sameFlags s t ∧ Kept [.port] s t) ∧
    (s.ctl.station ≠ .init → commandCode code = false → ∃ t, exec (.unknownCommand code fields) s = .next t ∧
      Answers .unknown [] .plain t ∧ sameFlags s t ∧ Kept [.port] s t) ∧
    (s.ctl.station ≠ .init → ∀ c : Service,
      fields.length ≠ (if c = .ackChanges then 2 else if c = .writeConfig then 78 else if c = .stage then 3 else 0) →
      ∃ t, exec (c.command fields) s = .next t ∧ Answers .badLength [] .plain t ∧ sameFlags s t ∧ Kept [.port] s t)

/-- The read commands past INIT (R155, R163, R164, R178): accepted, with a reply of the layout, changing nothing but the reply
in progress. READ-IDENT replies 6 bytes, bits 6 and 7 of the last sent as 0 (log entry 35). READ-PEERS replies the count, 33
bytes for each entry in table order (address, role, section, period, state, age, marks, pending transfer or 8000h, body area in
frame bit order filled with zeros) and own-reported-since-alert. READ-GROUPS replies 80, ten bytes for each group: present, rank
(of a group not present the configured one, log entry 28), state, load (R102), remembered load, output, confirm timer in whole
milliseconds (log entry 17) or FFFFh; on a genset station every group is ABSENT. READ-CONFIG replies the stored record. -/
def Obligations.ReadCommandsReply : Prop :=
  ∀ s : State, noRestart s → s.ctl.station ≠ .init →
    (∃ t b, exec (.readIdent []) s = .next t ∧ Answers .accepted [0x46, 0x42, 0x02, 0x20, 0x01, b] .plain t ∧
      b.toNat = s.ctl.straps.address.val + (if s.ctl.straps.role = .genset then 0 else 16) +
        (if s.ctl.straps.sect = .a then 0 else 32) ∧ sameFlags s t ∧ Kept [.port] s t) ∧
    (∃ t content, exec (.readPeers []) s = .next t ∧ Answers .accepted content .plain t ∧
      content.length = 2 + 33 * s.view.peers.length ∧
      (s.view.peers.length ≤ 255 → fieldAt content 0 1 = s.view.peers.length) ∧
      fieldAt content (1 + 33 * s.view.peers.length) 1 % 2 = (if s.view.ownReported then 1 else 0) ∧
      (∀ (i : Nat) (e : PeerEntry), s.view.peers[i]? = some e →
        fieldAt content (1 + 33 * i) 1 = e.address.val ∧
        fieldAt content (2 + 33 * i) 1 = (match e.role with | .genset => 0 | .feeder => 1 | .unknown => 2) ∧
        fieldAt content (3 + 33 * i) 1 = (match e.sect with | .a => 0 | .b => 1) ∧
        (e.period ≤ 255 → fieldAt content (4 + 33 * i) 1 = e.period) ∧
        fieldAt content (5 + 33 * i) 1 =
          (match e.state with | .fresh => 0 | .stale => 1 | .lost => 2 | .incompatible => 3) ∧
        (e.age ≤ 255 → fieldAt content (6 + 33 * i) 1 = e.age) ∧
        (fieldAt content (7 + 33 * i) 1).testBit 0 = e.tripped ∧ (fieldAt content (7 + 33 * i) 1).testBit 1 = e.heard ∧
        (fieldAt content (7 + 33 * i) 1).testBit 2 = e.transfer.isSome ∧
        (e.transfer = none → fieldAt content (8 + 33 * i) 2 = 0x8000) ∧
        (∀ p, e.transfer = some p → signed16 p → signedAt content (8 + 33 * i) 2 = p) ∧
        (∀ bits, bits = (match e.body with | .none => [] | .gen b => b.bits | .feed b => b.bits) →
          bytesBits ((content.drop (10 + 33 * i)).take 24) = bits ++ List.replicate (192 - bits.length) false)) ∧
      sameFlags s t ∧ Kept [.port] s t) ∧
    (∃ t content, exec (.readGroups []) s = .next t ∧ Answers .accepted content .plain t ∧ content.length = 80 ∧
      (∀ g : GroupNo,
        (s.isGenset = true → fieldAt content (10 * g.val) 3 = 6 ∧ fieldAt content (3 + 10 * g.val) 5 = 0 ∧
          fieldAt content (8 + 10 * g.val) 2 = 0xFFFF) ∧
        (s.isFeeder = true →
          fieldAt content (10 * g.val) 1 = (if s.ctl.cfg.present[g] then 1 else 0) ∧
          (s.ctl.cfg.rank[g] ≤ 255 → fieldAt content (1 + 10 * g.val) 1 = s.ctl.cfg.rank[g]) ∧
          fieldAt content (2 + 10 * g.val) 1 = sentGroup s.shed.groups[g].state ∧
          (∀ load, load = (match s.shed.groups[g].state with
              | .connected => s.intake.means.loads[g]
              | .shedding => s.intake.means.loads[g]
              | .shed => s.shed.groups[g].remembered
              | .shedFailed => s.shed.groups[g].remembered
              | .opened => 0
              | .fault => 0
              | .absent => 0) → signed16 load → signedAt content (3 + 10 * g.val) 2 = load) ∧
          (signed16 s.shed.groups[g].remembered →
            signedAt content (5 + 10 * g.val) 2 = s.shed.groups[g].remembered) ∧
          fieldAt content (7 + 10 * g.val) 1 = (if s.shed.groups[g].output then 1 else 0) ∧
          (s.shed.groups[g].confirm = none → fieldAt content (8 + 10 * g.val) 2 = 0xFFFF) ∧
          (∀ us, s.shed.groups[g].confirm = some us → us / 1000 ≤ 65535 →
            fieldAt content (8 + 10 * g.val) 2 = us / 1000))) ∧
      sameFlags s t ∧ Kept [.port] s t) ∧
    (∃ t, exec (.readConfig []) s = .next t ∧ Answers .accepted s.ctl.stored .plain t ∧ sameFlags s t ∧ Kept [.port] s t)

/-- READ-STATUS and the clearing of its flags (R165, R169, R170, R171, R178): the record is 52 bytes, its fields at
their places and in their codes (on a feeder station bytes 4 to 6 are 0, log entry 19), with the change word last;
the raised-again marks clear at the snapshot; when the change word's byte has gone, READ-CLEAR clears the flags of the snapshot
that were not raised again, and WRITE-BACK clears none. -/
def Obligations.StatusReadReportsAndClears : Prop :=
  ∀ s : State,
    (noRestart s → s.ctl.station ≠ .init → ∃ t content, exec (.readStatus []) s = .next t ∧
      Answers .accepted content .status t ∧ content.length = 52 ∧
      content.drop 50 = natBytes 2 s.port.changeWord.toNat ∧ statusFields s content ∧
      t.port.changeWord = s.port.changeWord ∧ t.port.snapshot = s.port.changeWord ∧ t.port.again = 0 ∧
      t.port.attention = s.port.attention ∧ Kept [.port] s t) ∧
    (s.port.phase = .replying .status → ∃ t, exec .statusReadClear s = .next t ∧ t.port.phase = .replying .plain ∧
      t.port.reply = s.port.reply ∧ Kept [.port] s t ∧
      (s.ctl.cfg.ackMode = .readClear → ∀ f : ChangeFlag,
        flagOf t f = (flagOf s f && !(flagSet s.port.snapshot f && !flagSet s.port.again f))) ∧
      (s.ctl.cfg.ackMode = .writeBack → t.port.changeWord = s.port.changeWord ∧ t.port.attention = s.port.attention))

/-- ACK-CHANGES (R171): it clears each flag whose bit in the mask is one and leaves the others, in either ack_mode, and changes no
other block. A flag raised before an ACK-CHANGES that names it is cleared by it, one raised after it stands and is reported by the
next READ-STATUS. In WRITE-BACK mode a READ-STATUS reports the change word and clears nothing, at its judgment or after its last
byte. -/
def Obligations.AckChangesClearsByMask : Prop :=
  ∀ (hi lo : Byte) (s : State), noRestart s → s.ctl.station ≠ .init →
    (∃ t, exec (.ackChanges [hi, lo]) s = .next t ∧ Answers .accepted [] .plain t ∧
      (∀ f : ChangeFlag, flagOf t f = (flagOf s f && !(BitVec.getLsbD (hi ++ lo) f.bitIndex))) ∧
      t.port.snapshot = s.port.snapshot ∧ Kept [.port] s t) ∧
    (∀ f : ChangeFlag, BitVec.getLsbD (hi ++ lo) f.bitIndex = true → ∃ u v w content,
      exec (.ackChanges [hi, lo]) (raise f s) = .next u ∧ flagOf u f = false ∧
      exec (.ackChanges [hi, lo]) s = .next v ∧ flagOf (raise f v) f = true ∧
      exec (.readStatus []) (raise f v) = .next w ∧ Answers .accepted content .status w ∧
      content.drop 50 = natBytes 2 (raise f v).port.changeWord.toNat) ∧
    (s.ctl.cfg.ackMode = .writeBack → ∃ t content u, exec (.readStatus []) s = .next t ∧
      Answers .accepted content .status t ∧ content.drop 50 = natBytes 2 s.port.changeWord.toNat ∧
      t.port.changeWord = s.port.changeWord ∧ exec .statusReadClear t = .next u ∧
      u.port.changeWord = s.port.changeWord)

/-- WRITE-ENABLE (R156): BUSY in INIT and while a store operation runs, WRONG-STATE in LISTEN, RUN, FALLBACK and SILENT; in
STANDBY with the store IDLE it sets the latch, locked or not, set or not. The latch clears at the completion of a store
operation, at entry to LISTEN and at reset; a refused WRITE-CONFIG or LOCK-CONFIG leaves it as it was. -/
def Obligations.WriteEnableLatch : Prop :=
  (∀ s : State, noRestart s →
    ((s.ctl.station = .init ∨ s.ctl.store ≠ .idle) →
      ∃ t, exec (.writeEnable []) s = .next t ∧ Answers .busy [] .plain t ∧ sameFlags s t ∧ Kept [.port] s t) ∧
    (s.ctl.station.active = true → s.ctl.store = .idle →
      ∃ t, exec (.writeEnable []) s = .next t ∧ Answers .wrongState [] .plain t ∧ sameFlags s t ∧ Kept [.port] s t) ∧
    (s.ctl.station = .standby → s.ctl.store = .idle →
      ∃ t, exec (.writeEnable []) s = .next t ∧ Answers .accepted [] .plain t ∧ sameFlags s t ∧
        t.ctl = { s.ctl with writeEnable := true } ∧ Kept [.ctl, .port] s t) ∧
    (s.ctl.store ≠ .idle → ∃ t, exec .storeCompletion s = .next t ∧ t.ctl.writeEnable = false) ∧
    (s.ctl.station = .standby → s.ctl.store = .idle → s.ctl.cfgFault = false →
      ∃ t, exec (.resume []) s = .next t ∧ t.ctl.station = .listen ∧ t.ctl.writeEnable = false) ∧
    (∀ pins cut, ∃ t, exec (.reset pins cut) s = .next t ∧ t.ctl.writeEnable = false) ∧
    (∀ fields t, exec (.writeConfig fields) s = .next t → t.port.reply ≠ [Result.accepted.code] →
      t.ctl.writeEnable = s.ctl.writeEnable) ∧
    (∀ fields t, exec (.lockConfig fields) s = .next t → t.port.reply ≠ [Result.accepted.code] →
      t.ctl.writeEnable = s.ctl.writeEnable)) ∧
  (∀ (pins : Straps) (s : State), s.port.phase = .replying .restart →
    ∃ t, exec (.restartReset pins) s = .next t ∧ t.ctl.writeEnable = false)

/-- WRITE-CONFIG with a record of its length and LOCK-CONFIG (R157, R158): the first refusal that holds in the rule's order,
else the store operation begins with the stored record standing; the completion of a lock sets the locked mark and raises
STORE-DONE (R159). -/
def Obligations.StoreCommandsInOrder : Prop :=
  (∀ (rec : List Byte) (s : State), noRestart s → s.ctl.station ≠ .init → rec.length = 78 →
    ∃ t, exec (.writeConfig rec) s = .next t ∧ t.ctl.stored = s.ctl.stored ∧ sameFlags s t ∧
      (if s.ctl.station ≠ .standby then Answers .wrongState [] .plain t ∧ Kept [.port] s t
       else if s.ctl.writeEnable = false then Answers .notEnabled [] .plain t ∧ Kept [.port] s t
       else if s.ctl.locked = true then Answers .locked [] .plain t ∧ Kept [.port] s t
       else if recordInRange rec = false ∨ gensetTieReporter rec = true then
         Answers .badValue [] .plain t ∧ Kept [.port] s t
       else if s.ctl.store ≠ .idle then Answers .busy [] .plain t ∧ Kept [.port] s t
       else Answers .accepted [] .plain t ∧ t.ctl = { s.ctl with store := .writing rec } ∧ Kept [.ctl, .port] s t)) ∧
  (∀ s : State, noRestart s → s.ctl.station ≠ .init →
    ∃ t, exec (.lockConfig []) s = .next t ∧ t.ctl.stored = s.ctl.stored ∧ sameFlags s t ∧
      (if s.ctl.station ≠ .standby then Answers .wrongState [] .plain t ∧ Kept [.port] s t
       else if s.ctl.writeEnable = false then Answers .notEnabled [] .plain t ∧ Kept [.port] s t
       else if s.ctl.locked = true then Answers .locked [] .plain t ∧ Kept [.port] s t
       else if s.ctl.store ≠ .idle then Answers .busy [] .plain t ∧ Kept [.port] s t
       else if recordCrcOk s.ctl.stored = false ∨ recordInRange s.ctl.stored = false then
         Answers .badValue [] .plain t ∧ Kept [.port] s t
       else Answers .accepted [] .plain t ∧ t.ctl = { s.ctl with store := .locking } ∧ Kept [.ctl, .port] s t ∧
         ∃ u, exec .storeCompletion t = .next u ∧ u.ctl.locked = true ∧ u.ctl.stored = s.ctl.stored ∧
           RaisedOnly [.storeDone] t u))

/-- STAGE, HOLD and APPLY in LISTEN, RUN, FALLBACK and SILENT (R153, R154, R178). A numeric tunable's value is taken into its
range and staged, CLAMPED raised exactly when that changes it; share mode and capture_armed take the codes 0 and 1; any other
code, and an identity above 9, is BAD-VALUE with the staged set as it was; the other staged values and the working values
stand. HOLD and APPLY set and clear the HOLD flag and nothing else. In STANDBY all three are answered WRONG-STATE. -/
def Obligations.StagingCommands : Prop :=
  ∀ s : State, noRestart s →
    (s.ctl.station.active = true →
      (∀ (hi lo : Byte) (range : Byte × Int × Int),
        range ∈ ([(0, 0, 255), (1, 0, 255), (2, 0, 255), (3, 0, 255), (5, 0, 11000), (6, 5000, 10000), (7, 3000, 9000),
          (8, 0, 32767)] : List (Byte × Int × Int)) →
        ∃ t, exec (.stage [range.1, hi, lo]) s = .next t ∧ Answers .accepted [] .plain t ∧
          stagedNumber range.1.toNat t.ctl.staged =
            some (max range.2.1 (min range.2.2 (BitVec.toInt (hi ++ lo)))) ∧
          (∀ n : Nat, n ≠ range.1.toNat → stagedNumber n t.ctl.staged = stagedNumber n s.ctl.staged) ∧
          t.ctl.staged.mode = s.ctl.staged.mode ∧ t.ctl.staged.captureArmed = s.ctl.staged.captureArmed ∧
          t.ctl = { s.ctl with staged := t.ctl.staged } ∧
          t.port.changeWord = (if range.2.1 ≤ BitVec.toInt (hi ++ lo) ∧ BitVec.toInt (hi ++ lo) ≤ range.2.2
            then s.port.changeWord else s.port.changeWord ||| ChangeFlag.clamped.mask) ∧ Kept [.ctl, .port] s t) ∧
      (∀ hi lo : Byte, ∃ t u, exec (.stage [4, hi, lo]) s = .next t ∧ exec (.stage [9, hi, lo]) s = .next u ∧
        sameFlags s t ∧ sameFlags s u ∧ Kept [.ctl, .port] s t ∧ Kept [.ctl, .port] s u ∧
        (if hi ++ lo = (0 : BitVec 16) then Answers .accepted [] .plain t ∧ Answers .accepted [] .plain u ∧
           t.ctl = { s.ctl with staged := { s.ctl.staged with mode := some .share } } ∧
           u.ctl = { s.ctl with staged := { s.ctl.staged with captureArmed := some false } }
         else if hi ++ lo = (1 : BitVec 16) then Answers .accepted [] .plain t ∧ Answers .accepted [] .plain u ∧
           t.ctl = { s.ctl with staged := { s.ctl.staged with mode := some .base } } ∧
           u.ctl = { s.ctl with staged := { s.ctl.staged with captureArmed := some true } }
         else Answers .badValue [] .plain t ∧ Answers .badValue [] .plain u ∧ t.ctl = s.ctl ∧ u.ctl = s.ctl)) ∧
      (∀ id hi lo : Byte, 10 ≤ id.toNat → ∃ t, exec (.stage [id, hi, lo]) s = .next t ∧ Answers .badValue [] .plain t ∧
        sameFlags s t ∧ Kept [.port] s t) ∧
      (∃ t, exec (.hold []) s = .next t ∧ Answers .accepted [] .plain t ∧ t.ctl = { s.ctl with hold := true } ∧
        sameFlags s t ∧ Kept [.ctl, .port] s t) ∧
      (∃ t, exec (.apply []) s = .next t ∧ Answers .accepted [] .plain t ∧ t.ctl = { s.ctl with hold := false } ∧
        sameFlags s t ∧ Kept [.ctl, .port] s t)) ∧
    (s.ctl.station = .standby → ∀ id hi lo : Byte, ∃ t, exec (.stage [id, hi, lo]) s = .next t ∧
      exec (.hold []) s = .next t ∧ exec (.apply []) s = .next t ∧ Answers .wrongState [] .plain t ∧ sameFlags s t ∧
      Kept [.port] s t)

/-- ENTER-STANDBY (R16, R30, R42, R55, R82, R95, R120, R138, R145): from LISTEN, RUN, FALLBACK or SILENT the station enters
STANDBY with the staged set empty and every block at its STANDBY values, the configuration, the cut rank, the outputs and the
lockout kept; an ARMED slot goes FREE, a POST slot closes READY and truncated at the tail of the ready list with RECORD-READY
raised, and a genset station sends its record. No other flag changes but ENGINE-READY, which log entry 14 leaves open where
READY stood asserted; that neither BREAKER nor GROUP is raised is log entry 38, the count of records sent log entry 16, the
recessive count after a reception or a flight ended part way log entry 40. In STANDBY the command changes nothing. -/
def Obligations.EnterStandbyTakesStandbyValues : Prop :=
  ∀ s : State, noRestart s →
    (s.ctl.station.active = true → ∃ t, exec (.enterStandby []) s = .next t ∧ Answers .accepted [] .plain t ∧
      t.ctl = { s.ctl with station := .standby, staged := Staged.empty, hold := false, listenCount := 0,
                           fallbackCount := 0, shareTimer := none } ∧
      t.intake = Intake.reset ∧
      t.link = { s.link with receiving := false, flight := none, statePending := false, stateInFlight := false,
                             alerts := [], errors := 0, outcome := .none } ∧
      t.view.peers = [] ∧ t.view.ownReported = true ∧ t.view.tieClosed = false ∧
      t.view.sums.c = 0 ∧ t.view.sums.l = 0 ∧ t.view.sums.d = 0 ∧ t.view.sums.lf = none ∧ t.view.sums.pAvg = none ∧
      t.view.sums.qAvg = none ∧ t.view.sums.sharers = [] ∧ t.view.sums.coincidence = 0 ∧
      t.ls = { s.ls with
        unit := if s.ls.unit = .tripped then .tripped else .offline, k := 0, p0 := none, target := none,
        speedBias := 0, voltBias := 0, biasValid := false, trip := false, tripTimer := none, tripFailed := false,
        stop := if s.ls.unit = .tripped then s.ls.stop else false, stopTimer := none,
        actuator := if s.isGenset then { speedBias := 0, voltBias := 0, biasValid := false } else s.ls.actuator,
        actuatorSent := if s.isGenset then s.ls.actuatorSent + 1 else s.ls.actuatorSent } ∧
      t.demand = { startNeed := 0, attempt := none, start := false, lockout := s.demand.lockout, stopNeed := 0 } ∧
      t.shed = { s.shed with settle := none, step := none, restore := 0, groups := t.shed.groups } ∧
      (∀ g : GroupNo, t.shed.groups[g] = { s.shed.groups[g] with confirm := none }) ∧
      (s.cap.activeSlot = none → t.cap = s.cap) ∧
      (∀ i ring, s.cap.activeSlot = some i → s.cap.slots[i] = .armed ring →
        t.cap = { s.cap with slots := s.cap.slots.set i .free }) ∧
      (∀ i rec, s.cap.activeSlot = some i → s.cap.slots[i] = .post rec →
        t.cap = { s.cap with
          slots := s.cap.slots.set i (.ready { rec with header := { rec.header with truncated := true } })
          readyList := s.cap.readyList ++ [i] } ∧ flagOf t .recordReady = true) ∧
      (∀ i : SlotNo, s.cap.slots[i].active = false → t.cap.slots[i] = s.cap.slots[i]) ∧
      ((∀ (i : SlotNo) (rec : Record), s.cap.slots[i] ≠ .post rec) → flagOf t .recordReady = flagOf s .recordReady) ∧
      (s.intake.ready = false → flagOf t .engineReady = flagOf s .engineReady) ∧
      (∀ f : ChangeFlag, f ≠ .recordReady → f ≠ .engineReady → flagOf t f = flagOf s f)) ∧
    (s.ctl.station = .standby → ∃ t, exec (.enterStandby []) s = .next t ∧ Answers .accepted [] .plain t ∧
      sameFlags s t ∧ Kept [.port] s t)

/-- RESUME (R146): BUSY in INIT, WRONG-STATE outside STANDBY, BUSY while a store operation runs, WRONG-STATE with CONFIG-FAULT
set; else LISTEN is entered with the latch clear, the counter 0, the share timer from 0 and the time tag at 0 with its flag
clear, and a slot arms if capture_armed is on and a FREE slot stands (R124). Nothing is held to send (R29, R30), and no frame is
in reception, whatever the line carries (R31). -/
def Obligations.ResumeEntersListen : Prop :=
  ∀ s : State, noRestart s → ∃ t, exec (.resume []) s = .next t ∧ sameFlags s t ∧
    (if s.ctl.station = .init then Answers .busy [] .plain t ∧ Kept [.port] s t
     else if s.ctl.station ≠ .standby then Answers .wrongState [] .plain t ∧ Kept [.port] s t
     else if s.ctl.store ≠ .idle then Answers .busy [] .plain t ∧ Kept [.port] s t
     else if s.ctl.cfgFault = true then Answers .wrongState [] .plain t ∧ Kept [.port] s t
     else Answers .accepted [] .plain t ∧
       t.ctl = { s.ctl with station := .listen, writeEnable := false, listenCount := 0, shareTimer := some 0 } ∧
       t.link = { s.link with receiving := false, flight := none, statePending := false, stateInFlight := false,
                              alerts := [], errors := 0, outcome := .none } ∧
       t.cap.tag = 0 ∧ t.cap.overflow = false ∧
       t.shed.restore = 0 ∧ t.shed.cut = s.shed.cut ∧ t.demand.startNeed = 0 ∧ t.demand.stopNeed = 0 ∧
       (s.ctl.cfg.tun.captureArmed = false → t.cap.slots = s.cap.slots) ∧
       (∀ i, s.ctl.cfg.tun.captureArmed = true → s.cap.activeSlot = none → s.cap.freeSlot = some i →
         t.cap.slots[i] = .armed []) ∧
       Kept [.ctl, .link, .demand, .shed, .cap, .port] s t)

/-- RESTART, its reset, and select (R160, R161, R168): RESTART is answered BUSY in INIT and while a store operation runs;
else it is accepted and nothing is reset at its judgment. The reset comes when its result byte has gone, or when select is
deasserted, with the straps sampled; after the byte the port ignores the rest of the select period. A deasserted select cuts
any other reply and changes nothing else. That the straps of a reset at the deasserted select are the pins' levels last given is
log entry 11. -/
def Obligations.RestartResetsAfterItsReply : Prop :=
  ∀ (pins : Straps) (s : State),
    (noRestart s → (s.ctl.station = .init ∨ s.ctl.store ≠ .idle) → ∃ t, exec (.restart []) s = .next t ∧
      Answers .busy [] .plain t ∧ sameFlags s t ∧ Kept [.port] s t) ∧
    (noRestart s → s.ctl.station ≠ .init → s.ctl.store = .idle → ∃ t u v, exec (.restart []) s = .next t ∧
      Answers .accepted [] .restart t ∧ sameFlags s t ∧ Kept [.port] s t ∧
      exec (.restartReset pins) t = .next u ∧ u.ctl.station = .init ∧ u.ctl.straps = pins ∧ u.port.phase = .ignoring ∧
      u.port.changeWord = 0 ∧ u.ctl.stored = s.ctl.stored ∧ u.ctl.locked = s.ctl.locked ∧ u.shed.cut = 15 ∧
      exec .selectDeassert t = .next v ∧ v.ctl.station = .init ∧ v.ctl.straps = s.ctl.pins ∧ v.port.phase = .waiting ∧
      v.ctl.stored = s.ctl.stored) ∧
    (noRestart s → ∃ t, exec .selectDeassert s = .next t ∧ t.port = { s.port with phase := .waiting } ∧ Kept [.port] s t)

/-- CLEAR-TRIP (R61, R62, R168): a TRIPPED set becomes OFFLINE with STOP released, the lockout cleared and UNIT raised, or
RAMP-IN at once when its breaker stands settled CLOSED in RUN, FALLBACK or SILENT; in any other unit state only the lockout
clears; on a feeder station nothing changes. -/
def Obligations.ClearTripReleasesSet : Prop :=
  ∀ s : State, noRestart s → s.ctl.station ≠ .init → ∃ t, exec (.clearTrip []) s = .next t ∧ Answers .accepted [] .plain t ∧
    t.ctl = s.ctl ∧ t.shed = s.shed ∧ t.view = s.view ∧ t.cap = s.cap ∧ t.link = s.link ∧ t.intake = s.intake ∧
    (s.isFeeder = true → sameFlags s t ∧ Kept [.port] s t) ∧
    (s.isGenset = true → t.demand.lockout = false) ∧
    (s.isGenset = true → s.ls.unit ≠ .tripped →
      t.demand = { s.demand with lockout := false } ∧ sameFlags s t ∧ Kept [.demand, .port] s t) ∧
    (s.isGenset = true → s.ls.unit = .tripped →
      t.ls.stop = false ∧ t.port.changeWord = s.port.changeWord ||| ChangeFlag.unit.mask ∧
      t.ls.unit = (if s.ctl.station.working = true ∧ s.intake.setBreaker.settled = .closed then .rampIn else .offline) ∧
      (s.ctl.station.working = true → s.intake.setBreaker.settled = .closed → t.ls.k = 0))

/-- FORCE-CAPTURE (R127, R128, R129, R131, R132, R167): the reply gives what capture did with the trigger and the counter after
it; a trigger not in trigger_mask changes nothing; in STANDBY and LISTEN a taken trigger is refused as (a); with a full ring and
no overlap the ARMED slot becomes POST with the ring's rows before the trigger and the counter counted. The refusals (a) to (d)
change no slot, and (b) alone raises RECORD-FULL; they count in count_mode ALL only. An overlap closes the POST record READY
with its mark at the tail of the ready list, RECORD-READY raised, and the lowest FREE slot is POST with no rows. Rows (R125,
R126, R130): a sample's row joins the ring, which holds the most recent pre rows, or the POST record, which at 256 rows becomes
READY with RECORD-READY; that a row's offset counts the wraps of the time tag between trigger and row is log entry 37. -/
def Obligations.ForceCaptureOffersTrigger : Prop :=
  (∀ s : State, noRestart s → s.ctl.station ≠ .init → ∃ t outcome, exec (.forceCapture []) s = .next t ∧
    Answers .accepted (outcome :: natBytes 4 t.cap.counter) .plain t ∧ t.ctl = s.ctl ∧ t.shed = s.shed ∧ t.ls = s.ls ∧
    (s.ctl.cfg.triggerMask.getLsbD 3 = false → outcome = 0 ∧ t.cap = s.cap ∧ sameFlags s t) ∧
    (s.ctl.cfg.triggerMask.getLsbD 3 = true → s.ctl.station = .standby → outcome = 3 ∧ t.cap.slots = s.cap.slots) ∧
    (∀ i ring, s.ctl.cfg.triggerMask.getLsbD 3 = true → s.ctl.station.working = true →
      s.ctl.cfg.tun.captureArmed = true → s.cap.activeSlot = some i → s.cap.slots[i] = .armed ring →
      s.ctl.cfg.pre ≤ ring.length →
      outcome = 1 ∧ t.cap.counter = (if s.cap.counter < 4294967295 then s.cap.counter + 1 else s.cap.counter) ∧
      sameFlags s t ∧
      ∃ rec, t.cap.slots[i] = .post rec ∧ rec.header.number = t.cap.counter ∧ rec.header.cause = .forced ∧
        rec.header.cut = s.shed.cut ∧ rec.pre.map Row.raw = ring ∧ rec.post = [] ∧
        ∀ j : SlotNo, j ≠ i → t.cap.slots[j] = s.cap.slots[j]) ∧
    (s.ctl.cfg.triggerMask.getLsbD 3 = true → outcome = 3 ∨ outcome = 4 ∨ outcome = 5 ∨ outcome = 6 →
      t.cap = { s.cap with counter := t.cap.counter } ∧
      t.cap.counter = (if s.ctl.cfg.countMode = .all ∧ s.cap.counter < 4294967295 then s.cap.counter + 1
                       else s.cap.counter) ∧
      (outcome = 4 → flagOf t .recordFull = true) ∧ (outcome ≠ 4 → sameFlags s t) ∧
      ∀ f, f ≠ .recordFull → flagOf t f = flagOf s f) ∧
    (s.ctl.cfg.triggerMask.getLsbD 3 = true →
      (s.ctl.cfg.tun.captureArmed = false ∨ s.ctl.station.working = false) → outcome = 3) ∧
    (s.ctl.cfg.triggerMask.getLsbD 3 = true → s.ctl.station.working = true → s.ctl.cfg.tun.captureArmed = true →
      ((∀ i : SlotNo, isReady s.cap.slots[i] = true) → outcome = 4) ∧
      (∀ i ring, s.cap.activeSlot = some i → s.cap.slots[i] = .armed ring → ring.length < s.ctl.cfg.pre → outcome = 5) ∧
      (∀ i rec, s.cap.activeSlot = some i → s.cap.slots[i] = .post rec →
        (s.ctl.cfg.overlapAccept = false → outcome = 6) ∧
        (s.ctl.cfg.overlapAccept = true → (∀ j : SlotNo, s.cap.slots[j] ≠ .free) → outcome = 4) ∧
        (∀ j : SlotNo, s.ctl.cfg.overlapAccept = true → s.cap.slots[j] = .free →
            (∀ k : SlotNo, k < j → s.cap.slots[k] ≠ .free) →
          outcome = 2 ∧ t.cap.counter = (if s.cap.counter < 4294967295 then s.cap.counter + 1 else s.cap.counter) ∧
          t.cap.slots[i] = .ready { rec with header := { rec.header with overlap := true } } ∧
          t.cap.readyList = s.cap.readyList ++ [i] ∧ flagOf t .recordReady = true ∧
          (∃ new, t.cap.slots[j] = .post new ∧ new.header.number = t.cap.counter ∧ new.header.cause = .forced ∧
            new.header.tag = s.cap.tag ∧ new.header.preRows = 0 ∧ new.header.postRows = 0 ∧ new.pre = [] ∧
            new.post = []) ∧
          ∀ k : SlotNo, k ≠ i → k ≠ j → t.cap.slots[k] = s.cap.slots[k])))) ∧
  (∀ (r : RawRow) (s : State) (i : SlotNo), s.cap.activeSlot = some i →
    (∀ ring, s.cap.slots[i] = .armed ring → ∃ kept, (writeRow r s).cap = { s.cap with slots := s.cap.slots.set i (.armed kept) } ∧
      kept <:+ ring ++ [r] ∧ (ring.length ≤ s.ctl.cfg.pre → kept.length = min (ring.length + 1) s.ctl.cfg.pre)) ∧
    (∀ rec grown, s.cap.slots[i] = .post rec →
      grown = { rec with
        post := rec.post ++ [{ offset := rowOffset rec.wraps rec.header.tag r, raw := r }]
        header := { rec.header with postRows := rec.header.postRows + 1 } } →
      (rec.pre.length + rec.post.length + 1 < 256 →
        (writeRow r s).cap = { s.cap with slots := s.cap.slots.set i (.post grown) }) ∧
      (256 ≤ rec.pre.length + rec.post.length + 1 → (writeRow r s).cap.slots[i] = .ready grown ∧
        (writeRow r s).cap.readyList = s.cap.readyList ++ [i] ∧ flagOf (writeRow r s) .recordReady = true))) ∧
  (∀ (bytes : List Byte) (order : List SamplePart) (s : State) (x : Sample), s.ctl.station.active = true →
    parseSample s.ctl.straps.role bytes = some x → s.ctl.cfg.triggerMask = 0 →
    ∃ t r, exec (.sampleArrival bytes order) s = .next t ∧ t.cap = (writeRow r s).cap ∧ r.tag = s.cap.tag ∧ r.f = x.f ∧
      r.v = x.v ∧ r.station = s.ctl.station ∧ r.measure = s.intake.measure ∧
      (s.isGenset = true → r.power = x.p) ∧
      (s.isFeeder = true → r.power = total (groupNumbers.map (fun g => if s.ctl.cfg.present[g] then x.loads[g] else 0))) ∧
      r.wraps = s.cap.tagWraps ∧ s.shed.cut ≤ r.cut ∧ r.cut ≤ t.shed.cut)

/-- READ-CAPTURE and the end of its readout (R124, R135, R136, R166, R178): the reply opens with the count of READY records and,
when there is one, carries the record at the head of the ready list as R178 lays it out, and nothing is freed yet; when its last
byte has gone the slot is freed and the list moves up. Where capture_armed is on in LISTEN, RUN, FALLBACK or SILENT and no slot is
ARMED or POST, the lowest-numbered FREE slot then arms with an empty ring; else the slot freed stays FREE. No other slot
changes. That a record without rows is freed so too is log entry 41. -/
def Obligations.ReadoutFreesHeadSlot : Prop :=
  ∀ s : State,
    (noRestart s → s.ctl.station ≠ .init → ∃ t content, exec (.readCapture []) s = .next t ∧
      Answers .accepted (BitVec.ofNat 8 s.cap.readyList.length :: content)
        (if s.cap.readyList = [] then .plain else .readout) t ∧
      (s.cap.readyList = [] → content = []) ∧
      (∀ i rest rec, s.cap.readyList = i :: rest → s.cap.slots[i] = .ready rec →
        content = rec.reply ∧ content.length = 28 + 11 * rec.pre.length + 11 * rec.post.length) ∧
      sameFlags s t ∧ Kept [.port] s t) ∧
    (∀ i rest, s.port.phase = .replying .readout → s.cap.readyList = i :: rest →
      ∃ t, exec .readoutComplete s = .next t ∧ t.cap.readyList = rest ∧ t.port.phase = .replying .plain ∧
        t.cap.counter = s.cap.counter ∧ t.cap.tag = s.cap.tag ∧ Kept [.cap, .port] s t ∧
        (s.ctl.cfg.tun.captureArmed = true → s.ctl.station.active = true →
          (∀ j : SlotNo, j ≠ i → s.cap.slots[j].active = false) →
          ∃ k : SlotNo, t.cap.slots[k] = .armed [] ∧ (k = i ∨ s.cap.slots[k] = .free) ∧
            (∀ j : SlotNo, j < k → j ≠ i ∧ s.cap.slots[j] ≠ .free) ∧
            (∀ j : SlotNo, j ≠ k → t.cap.slots[j] = (if j = i then .free else s.cap.slots[j]))) ∧
        ((s.ctl.cfg.tun.captureArmed = false ∨ s.ctl.station.active = false ∨
            ∃ j : SlotNo, j ≠ i ∧ s.cap.slots[j].active = true) →
          ∀ j : SlotNo, t.cap.slots[j] = (if j = i then .free else s.cap.slots[j])))
end

