-- ==== Sys2Proof/Laws/State.lean ====
section
/-! SUPPORT. Laws/State.lean: the small lemmas of the named block replacements: which field each writes, and that it leaves
the others as they were. No later proof need unfold a record update. -/

namespace Sys2Proof
namespace Machine

@[simp] theorem State.setCtl_ctl (s : State) (x : Control) : (s.setCtl x).ctl = x := rfl
@[simp] theorem State.setCtl_intake (s : State) (x : Control) : (s.setCtl x).intake = s.intake := rfl
@[simp] theorem State.setCtl_link (s : State) (x : Control) : (s.setCtl x).link = s.link := rfl
@[simp] theorem State.setCtl_view (s : State) (x : Control) : (s.setCtl x).view = s.view := rfl
@[simp] theorem State.setCtl_ls (s : State) (x : Control) : (s.setCtl x).ls = s.ls := rfl
@[simp] theorem State.setCtl_demand (s : State) (x : Control) : (s.setCtl x).demand = s.demand := rfl
@[simp] theorem State.setCtl_shed (s : State) (x : Control) : (s.setCtl x).shed = s.shed := rfl
@[simp] theorem State.setCtl_cap (s : State) (x : Control) : (s.setCtl x).cap = s.cap := rfl
@[simp] theorem State.setCtl_port (s : State) (x : Control) : (s.setCtl x).port = s.port := rfl
@[simp] theorem State.setCtl_freeIndex (s : State) (x : Control) : (s.setCtl x).freeIndex = s.freeIndex := rfl
@[simp] theorem State.setCtl_pending (s : State) (x : Control) : (s.setCtl x).pending = s.pending := rfl

@[simp] theorem State.setIntake_ctl (s : State) (x : Intake) : (s.setIntake x).ctl = s.ctl := rfl
@[simp] theorem State.setIntake_intake (s : State) (x : Intake) : (s.setIntake x).intake = x := rfl
@[simp] theorem State.setIntake_link (s : State) (x : Intake) : (s.setIntake x).link = s.link := rfl
@[simp] theorem State.setIntake_view (s : State) (x : Intake) : (s.setIntake x).view = s.view := rfl
@[simp] theorem State.setIntake_ls (s : State) (x : Intake) : (s.setIntake x).ls = s.ls := rfl
@[simp] theorem State.setIntake_demand (s : State) (x : Intake) : (s.setIntake x).demand = s.demand := rfl
@[simp] theorem State.setIntake_shed (s : State) (x : Intake) : (s.setIntake x).shed = s.shed := rfl
@[simp] theorem State.setIntake_cap (s : State) (x : Intake) : (s.setIntake x).cap = s.cap := rfl
@[simp] theorem State.setIntake_port (s : State) (x : Intake) : (s.setIntake x).port = s.port := rfl
@[simp] theorem State.setIntake_freeIndex (s : State) (x : Intake) : (s.setIntake x).freeIndex = s.freeIndex := rfl
@[simp] theorem State.setIntake_pending (s : State) (x : Intake) : (s.setIntake x).pending = s.pending := rfl

@[simp] theorem State.setLink_ctl (s : State) (x : Link) : (s.setLink x).ctl = s.ctl := rfl
@[simp] theorem State.setLink_intake (s : State) (x : Link) : (s.setLink x).intake = s.intake := rfl
@[simp] theorem State.setLink_link (s : State) (x : Link) : (s.setLink x).link = x := rfl
@[simp] theorem State.setLink_view (s : State) (x : Link) : (s.setLink x).view = s.view := rfl
@[simp] theorem State.setLink_ls (s : State) (x : Link) : (s.setLink x).ls = s.ls := rfl
@[simp] theorem State.setLink_demand (s : State) (x : Link) : (s.setLink x).demand = s.demand := rfl
@[simp] theorem State.setLink_shed (s : State) (x : Link) : (s.setLink x).shed = s.shed := rfl
@[simp] theorem State.setLink_cap (s : State) (x : Link) : (s.setLink x).cap = s.cap := rfl
@[simp] theorem State.setLink_port (s : State) (x : Link) : (s.setLink x).port = s.port := rfl
@[simp] theorem State.setLink_freeIndex (s : State) (x : Link) : (s.setLink x).freeIndex = s.freeIndex := rfl
@[simp] theorem State.setLink_pending (s : State) (x : Link) : (s.setLink x).pending = s.pending := rfl

@[simp] theorem State.setView_ctl (s : State) (x : View) : (s.setView x).ctl = s.ctl := rfl
@[simp] theorem State.setView_intake (s : State) (x : View) : (s.setView x).intake = s.intake := rfl
@[simp] theorem State.setView_link (s : State) (x : View) : (s.setView x).link = s.link := rfl
@[simp] theorem State.setView_view (s : State) (x : View) : (s.setView x).view = x := rfl
@[simp] theorem State.setView_ls (s : State) (x : View) : (s.setView x).ls = s.ls := rfl
@[simp] theorem State.setView_demand (s : State) (x : View) : (s.setView x).demand = s.demand := rfl
@[simp] theorem State.setView_shed (s : State) (x : View) : (s.setView x).shed = s.shed := rfl
@[simp] theorem State.setView_cap (s : State) (x : View) : (s.setView x).cap = s.cap := rfl
@[simp] theorem State.setView_port (s : State) (x : View) : (s.setView x).port = s.port := rfl
@[simp] theorem State.setView_freeIndex (s : State) (x : View) : (s.setView x).freeIndex = s.freeIndex := rfl
@[simp] theorem State.setView_pending (s : State) (x : View) : (s.setView x).pending = s.pending := rfl

@[simp] theorem State.setLs_ctl (s : State) (x : LoadShare) : (s.setLs x).ctl = s.ctl := rfl
@[simp] theorem State.setLs_intake (s : State) (x : LoadShare) : (s.setLs x).intake = s.intake := rfl
@[simp] theorem State.setLs_link (s : State) (x : LoadShare) : (s.setLs x).link = s.link := rfl
@[simp] theorem State.setLs_view (s : State) (x : LoadShare) : (s.setLs x).view = s.view := rfl
@[simp] theorem State.setLs_ls (s : State) (x : LoadShare) : (s.setLs x).ls = x := rfl
@[simp] theorem State.setLs_demand (s : State) (x : LoadShare) : (s.setLs x).demand = s.demand := rfl
@[simp] theorem State.setLs_shed (s : State) (x : LoadShare) : (s.setLs x).shed = s.shed := rfl
@[simp] theorem State.setLs_cap (s : State) (x : LoadShare) : (s.setLs x).cap = s.cap := rfl
@[simp] theorem State.setLs_port (s : State) (x : LoadShare) : (s.setLs x).port = s.port := rfl
@[simp] theorem State.setLs_freeIndex (s : State) (x : LoadShare) : (s.setLs x).freeIndex = s.freeIndex := rfl
@[simp] theorem State.setLs_pending (s : State) (x : LoadShare) : (s.setLs x).pending = s.pending := rfl

@[simp] theorem State.setDemand_ctl (s : State) (x : Demand) : (s.setDemand x).ctl = s.ctl := rfl
@[simp] theorem State.setDemand_intake (s : State) (x : Demand) : (s.setDemand x).intake = s.intake := rfl
@[simp] theorem State.setDemand_link (s : State) (x : Demand) : (s.setDemand x).link = s.link := rfl
@[simp] theorem State.setDemand_view (s : State) (x : Demand) : (s.setDemand x).view = s.view := rfl
@[simp] theorem State.setDemand_ls (s : State) (x : Demand) : (s.setDemand x).ls = s.ls := rfl
@[simp] theorem State.setDemand_demand (s : State) (x : Demand) : (s.setDemand x).demand = x := rfl
@[simp] theorem State.setDemand_shed (s : State) (x : Demand) : (s.setDemand x).shed = s.shed := rfl
@[simp] theorem State.setDemand_cap (s : State) (x : Demand) : (s.setDemand x).cap = s.cap := rfl
@[simp] theorem State.setDemand_port (s : State) (x : Demand) : (s.setDemand x).port = s.port := rfl
@[simp] theorem State.setDemand_freeIndex (s : State) (x : Demand) : (s.setDemand x).freeIndex = s.freeIndex := rfl
@[simp] theorem State.setDemand_pending (s : State) (x : Demand) : (s.setDemand x).pending = s.pending := rfl

@[simp] theorem State.setShed_ctl (s : State) (x : Shed) : (s.setShed x).ctl = s.ctl := rfl
@[simp] theorem State.setShed_intake (s : State) (x : Shed) : (s.setShed x).intake = s.intake := rfl
@[simp] theorem State.setShed_link (s : State) (x : Shed) : (s.setShed x).link = s.link := rfl
@[simp] theorem State.setShed_view (s : State) (x : Shed) : (s.setShed x).view = s.view := rfl
@[simp] theorem State.setShed_ls (s : State) (x : Shed) : (s.setShed x).ls = s.ls := rfl
@[simp] theorem State.setShed_demand (s : State) (x : Shed) : (s.setShed x).demand = s.demand := rfl
@[simp] theorem State.setShed_shed (s : State) (x : Shed) : (s.setShed x).shed = x := rfl
@[simp] theorem State.setShed_cap (s : State) (x : Shed) : (s.setShed x).cap = s.cap := rfl
@[simp] theorem State.setShed_port (s : State) (x : Shed) : (s.setShed x).port = s.port := rfl
@[simp] theorem State.setShed_freeIndex (s : State) (x : Shed) : (s.setShed x).freeIndex = s.freeIndex := rfl
@[simp] theorem State.setShed_pending (s : State) (x : Shed) : (s.setShed x).pending = s.pending := rfl

@[simp] theorem State.setCap_ctl (s : State) (x : Capture) : (s.setCap x).ctl = s.ctl := rfl
@[simp] theorem State.setCap_intake (s : State) (x : Capture) : (s.setCap x).intake = s.intake := rfl
@[simp] theorem State.setCap_link (s : State) (x : Capture) : (s.setCap x).link = s.link := rfl
@[simp] theorem State.setCap_view (s : State) (x : Capture) : (s.setCap x).view = s.view := rfl
@[simp] theorem State.setCap_ls (s : State) (x : Capture) : (s.setCap x).ls = s.ls := rfl
@[simp] theorem State.setCap_demand (s : State) (x : Capture) : (s.setCap x).demand = s.demand := rfl
@[simp] theorem State.setCap_shed (s : State) (x : Capture) : (s.setCap x).shed = s.shed := rfl
@[simp] theorem State.setCap_cap (s : State) (x : Capture) : (s.setCap x).cap = x := rfl
@[simp] theorem State.setCap_port (s : State) (x : Capture) : (s.setCap x).port = s.port := rfl
@[simp] theorem State.setCap_freeIndex (s : State) (x : Capture) : (s.setCap x).freeIndex = s.freeIndex := rfl
@[simp] theorem State.setCap_pending (s : State) (x : Capture) : (s.setCap x).pending = s.pending := rfl

@[simp] theorem State.setPort_ctl (s : State) (x : Port) : (s.setPort x).ctl = s.ctl := rfl
@[simp] theorem State.setPort_intake (s : State) (x : Port) : (s.setPort x).intake = s.intake := rfl
@[simp] theorem State.setPort_link (s : State) (x : Port) : (s.setPort x).link = s.link := rfl
@[simp] theorem State.setPort_view (s : State) (x : Port) : (s.setPort x).view = s.view := rfl
@[simp] theorem State.setPort_ls (s : State) (x : Port) : (s.setPort x).ls = s.ls := rfl
@[simp] theorem State.setPort_demand (s : State) (x : Port) : (s.setPort x).demand = s.demand := rfl
@[simp] theorem State.setPort_shed (s : State) (x : Port) : (s.setPort x).shed = s.shed := rfl
@[simp] theorem State.setPort_cap (s : State) (x : Port) : (s.setPort x).cap = s.cap := rfl
@[simp] theorem State.setPort_port (s : State) (x : Port) : (s.setPort x).port = x := rfl
@[simp] theorem State.setPort_freeIndex (s : State) (x : Port) : (s.setPort x).freeIndex = s.freeIndex := rfl
@[simp] theorem State.setPort_pending (s : State) (x : Port) : (s.setPort x).pending = s.pending := rfl

/-! ### A replacement over a replacement of the same block -/

@[simp] theorem State.setCtl_setCtl (s : State) (x y : Control) : (s.setCtl x).setCtl y = s.setCtl y := rfl
@[simp] theorem State.setIntake_setIntake (s : State) (x y : Intake) : (s.setIntake x).setIntake y = s.setIntake y := rfl
@[simp] theorem State.setLink_setLink (s : State) (x y : Link) : (s.setLink x).setLink y = s.setLink y := rfl
@[simp] theorem State.setView_setView (s : State) (x y : View) : (s.setView x).setView y = s.setView y := rfl
@[simp] theorem State.setLs_setLs (s : State) (x y : LoadShare) : (s.setLs x).setLs y = s.setLs y := rfl
@[simp] theorem State.setDemand_setDemand (s : State) (x y : Demand) : (s.setDemand x).setDemand y = s.setDemand y := rfl
@[simp] theorem State.setShed_setShed (s : State) (x y : Shed) : (s.setShed x).setShed y = s.setShed y := rfl
@[simp] theorem State.setCap_setCap (s : State) (x y : Capture) : (s.setCap x).setCap y = s.setCap y := rfl
@[simp] theorem State.setPort_setPort (s : State) (x y : Port) : (s.setPort x).setPort y = s.setPort y := rfl

end Machine
end Sys2Proof
end

