-- ==== Sys2Proof/Laws/Frames.lean ====
section
/-! SUPPORT. Laws/Frames.lean: for each shared operation, the blocks of the state it never changes (so: the only blocks it
can change are the others). Later proofs cite these and do not unfold the operation. -/

namespace Sys2Proof
namespace Machine

-- One thread checks this file: its many short proofs would otherwise each hold a thread in the joined text.
set_option Elab.async false

@[simp] theorem raise_ctl (f : ChangeFlag) (s : State) : (raise f s).ctl = s.ctl := rfl
@[simp] theorem raise_intake (f : ChangeFlag) (s : State) : (raise f s).intake = s.intake := rfl
@[simp] theorem raise_link (f : ChangeFlag) (s : State) : (raise f s).link = s.link := rfl
@[simp] theorem raise_view (f : ChangeFlag) (s : State) : (raise f s).view = s.view := rfl
@[simp] theorem raise_ls (f : ChangeFlag) (s : State) : (raise f s).ls = s.ls := rfl
@[simp] theorem raise_demand (f : ChangeFlag) (s : State) : (raise f s).demand = s.demand := rfl
@[simp] theorem raise_shed (f : ChangeFlag) (s : State) : (raise f s).shed = s.shed := rfl
@[simp] theorem raise_cap (f : ChangeFlag) (s : State) : (raise f s).cap = s.cap := rfl
@[simp] theorem raise_freeIndex (f : ChangeFlag) (s : State) : (raise f s).freeIndex = s.freeIndex := rfl
@[simp] theorem raise_pending (f : ChangeFlag) (s : State) : (raise f s).pending = s.pending := rfl
@[simp] theorem raiseIf_ctl (c : Bool) (f : ChangeFlag) (s : State) : (raiseIf c f s).ctl = s.ctl := by
  simp only [raiseIf]; repeat' split
  all_goals simp
@[simp] theorem raiseIf_intake (c : Bool) (f : ChangeFlag) (s : State) : (raiseIf c f s).intake = s.intake := by
  simp only [raiseIf]; repeat' split
  all_goals simp
@[simp] theorem raiseIf_link (c : Bool) (f : ChangeFlag) (s : State) : (raiseIf c f s).link = s.link := by
  simp only [raiseIf]; repeat' split
  all_goals simp
@[simp] theorem raiseIf_view (c : Bool) (f : ChangeFlag) (s : State) : (raiseIf c f s).view = s.view := by
  simp only [raiseIf]; repeat' split
  all_goals simp
@[simp] theorem raiseIf_ls (c : Bool) (f : ChangeFlag) (s : State) : (raiseIf c f s).ls = s.ls := by
  simp only [raiseIf]; repeat' split
  all_goals simp
@[simp] theorem raiseIf_demand (c : Bool) (f : ChangeFlag) (s : State) : (raiseIf c f s).demand = s.demand := by
  simp only [raiseIf]; repeat' split
  all_goals simp
@[simp] theorem raiseIf_shed (c : Bool) (f : ChangeFlag) (s : State) : (raiseIf c f s).shed = s.shed := by
  simp only [raiseIf]; repeat' split
  all_goals simp
@[simp] theorem raiseIf_cap (c : Bool) (f : ChangeFlag) (s : State) : (raiseIf c f s).cap = s.cap := by
  simp only [raiseIf]; repeat' split
  all_goals simp
@[simp] theorem raiseIf_freeIndex (c : Bool) (f : ChangeFlag) (s : State) : (raiseIf c f s).freeIndex = s.freeIndex := by
  simp only [raiseIf]; repeat' split
  all_goals simp
@[simp] theorem raiseIf_pending (c : Bool) (f : ChangeFlag) (s : State) : (raiseIf c f s).pending = s.pending := by
  simp only [raiseIf]; repeat' split
  all_goals simp
@[simp] theorem clearFlags_ctl (w : FlagWord) (s : State) : (clearFlags w s).ctl = s.ctl := rfl
@[simp] theorem clearFlags_intake (w : FlagWord) (s : State) : (clearFlags w s).intake = s.intake := rfl
@[simp] theorem clearFlags_link (w : FlagWord) (s : State) : (clearFlags w s).link = s.link := rfl
@[simp] theorem clearFlags_view (w : FlagWord) (s : State) : (clearFlags w s).view = s.view := rfl
@[simp] theorem clearFlags_ls (w : FlagWord) (s : State) : (clearFlags w s).ls = s.ls := rfl
@[simp] theorem clearFlags_demand (w : FlagWord) (s : State) : (clearFlags w s).demand = s.demand := rfl
@[simp] theorem clearFlags_shed (w : FlagWord) (s : State) : (clearFlags w s).shed = s.shed := rfl
@[simp] theorem clearFlags_cap (w : FlagWord) (s : State) : (clearFlags w s).cap = s.cap := rfl
@[simp] theorem clearFlags_freeIndex (w : FlagWord) (s : State) : (clearFlags w s).freeIndex = s.freeIndex := rfl
@[simp] theorem clearFlags_pending (w : FlagWord) (s : State) : (clearFlags w s).pending = s.pending := rfl
@[simp] theorem queueAlert_ctl (a : Alert) (s : State) : (queueAlert a s).ctl = s.ctl := by
  simp only [queueAlert]; repeat' split
  all_goals simp
@[simp] theorem queueAlert_intake (a : Alert) (s : State) : (queueAlert a s).intake = s.intake := by
  simp only [queueAlert]; repeat' split
  all_goals simp
@[simp] theorem queueAlert_view (a : Alert) (s : State) : (queueAlert a s).view = s.view := by
  simp only [queueAlert]; repeat' split
  all_goals simp
@[simp] theorem queueAlert_ls (a : Alert) (s : State) : (queueAlert a s).ls = s.ls := by
  simp only [queueAlert]; repeat' split
  all_goals simp
@[simp] theorem queueAlert_demand (a : Alert) (s : State) : (queueAlert a s).demand = s.demand := by
  simp only [queueAlert]; repeat' split
  all_goals simp
@[simp] theorem queueAlert_shed (a : Alert) (s : State) : (queueAlert a s).shed = s.shed := by
  simp only [queueAlert]; repeat' split
  all_goals simp
@[simp] theorem queueAlert_cap (a : Alert) (s : State) : (queueAlert a s).cap = s.cap := by
  simp only [queueAlert]; repeat' split
  all_goals simp
@[simp] theorem queueAlert_freeIndex (a : Alert) (s : State) : (queueAlert a s).freeIndex = s.freeIndex := by
  simp only [queueAlert]; repeat' split
  all_goals simp
@[simp] theorem queueAlert_pending (a : Alert) (s : State) : (queueAlert a s).pending = s.pending := by
  simp only [queueAlert]; repeat' split
  all_goals simp
@[simp] theorem sendActuator_ctl (s : State) : (sendActuator s).ctl = s.ctl := by
  simp only [sendActuator]; repeat' split
  all_goals simp
@[simp] theorem sendActuator_intake (s : State) : (sendActuator s).intake = s.intake := by
  simp only [sendActuator]; repeat' split
  all_goals simp
@[simp] theorem sendActuator_link (s : State) : (sendActuator s).link = s.link := by
  simp only [sendActuator]; repeat' split
  all_goals simp
@[simp] theorem sendActuator_view (s : State) : (sendActuator s).view = s.view := by
  simp only [sendActuator]; repeat' split
  all_goals simp
@[simp] theorem sendActuator_demand (s : State) : (sendActuator s).demand = s.demand := by
  simp only [sendActuator]; repeat' split
  all_goals simp
@[simp] theorem sendActuator_shed (s : State) : (sendActuator s).shed = s.shed := by
  simp only [sendActuator]; repeat' split
  all_goals simp
@[simp] theorem sendActuator_cap (s : State) : (sendActuator s).cap = s.cap := by
  simp only [sendActuator]; repeat' split
  all_goals simp
@[simp] theorem sendActuator_port (s : State) : (sendActuator s).port = s.port := by
  simp only [sendActuator]; repeat' split
  all_goals simp
@[simp] theorem sendActuator_freeIndex (s : State) : (sendActuator s).freeIndex = s.freeIndex := by
  simp only [sendActuator]; repeat' split
  all_goals simp
@[simp] theorem sendActuator_pending (s : State) : (sendActuator s).pending = s.pending := by
  simp only [sendActuator]; repeat' split
  all_goals simp
@[simp] theorem abandonRampOut_ctl (s : State) : (abandonRampOut s).ctl = s.ctl := by
  simp only [abandonRampOut]; repeat' split
  all_goals simp
@[simp] theorem abandonRampOut_intake (s : State) : (abandonRampOut s).intake = s.intake := by
  simp only [abandonRampOut]; repeat' split
  all_goals simp
@[simp] theorem abandonRampOut_link (s : State) : (abandonRampOut s).link = s.link := by
  simp only [abandonRampOut]; repeat' split
  all_goals simp
@[simp] theorem abandonRampOut_view (s : State) : (abandonRampOut s).view = s.view := by
  simp only [abandonRampOut]; repeat' split
  all_goals simp
@[simp] theorem abandonRampOut_demand (s : State) : (abandonRampOut s).demand = s.demand := by
  simp only [abandonRampOut]; repeat' split
  all_goals simp
@[simp] theorem abandonRampOut_shed (s : State) : (abandonRampOut s).shed = s.shed := by
  simp only [abandonRampOut]; repeat' split
  all_goals simp
@[simp] theorem abandonRampOut_cap (s : State) : (abandonRampOut s).cap = s.cap := by
  simp only [abandonRampOut]; repeat' split
  all_goals simp
@[simp] theorem abandonRampOut_freeIndex (s : State) : (abandonRampOut s).freeIndex = s.freeIndex := by
  simp only [abandonRampOut]; repeat' split
  all_goals simp
@[simp] theorem abandonRampOut_pending (s : State) : (abandonRampOut s).pending = s.pending := by
  simp only [abandonRampOut]; repeat' split
  all_goals simp
@[simp] theorem refreshBias_ctl (s : State) : (refreshBias s).ctl = s.ctl := by
  simp only [refreshBias]; repeat' split
  all_goals simp
@[simp] theorem refreshBias_intake (s : State) : (refreshBias s).intake = s.intake := by
  simp only [refreshBias]; repeat' split
  all_goals simp
@[simp] theorem refreshBias_link (s : State) : (refreshBias s).link = s.link := by
  simp only [refreshBias]; repeat' split
  all_goals simp
@[simp] theorem refreshBias_view (s : State) : (refreshBias s).view = s.view := by
  simp only [refreshBias]; repeat' split
  all_goals simp
@[simp] theorem refreshBias_demand (s : State) : (refreshBias s).demand = s.demand := by
  simp only [refreshBias]; repeat' split
  all_goals simp
@[simp] theorem refreshBias_shed (s : State) : (refreshBias s).shed = s.shed := by
  simp only [refreshBias]; repeat' split
  all_goals simp
@[simp] theorem refreshBias_cap (s : State) : (refreshBias s).cap = s.cap := by
  simp only [refreshBias]; repeat' split
  all_goals simp
@[simp] theorem refreshBias_freeIndex (s : State) : (refreshBias s).freeIndex = s.freeIndex := by
  simp only [refreshBias]; repeat' split
  all_goals simp
@[simp] theorem refreshBias_pending (s : State) : (refreshBias s).pending = s.pending := by
  simp only [refreshBias]; repeat' split
  all_goals simp
@[simp] theorem refreshBiasNow_ctl (s : State) : (refreshBiasNow s).ctl = s.ctl := by
  simp only [refreshBiasNow]; repeat' split
  all_goals simp
@[simp] theorem refreshBiasNow_intake (s : State) : (refreshBiasNow s).intake = s.intake := by
  simp only [refreshBiasNow]; repeat' split
  all_goals simp
@[simp] theorem refreshBiasNow_link (s : State) : (refreshBiasNow s).link = s.link := by
  simp only [refreshBiasNow]; repeat' split
  all_goals simp
@[simp] theorem refreshBiasNow_view (s : State) : (refreshBiasNow s).view = s.view := by
  simp only [refreshBiasNow]; repeat' split
  all_goals simp
@[simp] theorem refreshBiasNow_demand (s : State) : (refreshBiasNow s).demand = s.demand := by
  simp only [refreshBiasNow]; repeat' split
  all_goals simp
@[simp] theorem refreshBiasNow_shed (s : State) : (refreshBiasNow s).shed = s.shed := by
  simp only [refreshBiasNow]; repeat' split
  all_goals simp
@[simp] theorem refreshBiasNow_cap (s : State) : (refreshBiasNow s).cap = s.cap := by
  simp only [refreshBiasNow]; repeat' split
  all_goals simp
@[simp] theorem refreshBiasNow_freeIndex (s : State) : (refreshBiasNow s).freeIndex = s.freeIndex := by
  simp only [refreshBiasNow]; repeat' split
  all_goals simp
@[simp] theorem refreshBiasNow_pending (s : State) : (refreshBiasNow s).pending = s.pending := by
  simp only [refreshBiasNow]; repeat' split
  all_goals simp
@[simp] theorem armSlot_ctl (s : State) : (armSlot s).ctl = s.ctl := by
  simp only [armSlot]; repeat' split
  all_goals simp
@[simp] theorem armSlot_intake (s : State) : (armSlot s).intake = s.intake := by
  simp only [armSlot]; repeat' split
  all_goals simp
@[simp] theorem armSlot_link (s : State) : (armSlot s).link = s.link := by
  simp only [armSlot]; repeat' split
  all_goals simp
@[simp] theorem armSlot_view (s : State) : (armSlot s).view = s.view := by
  simp only [armSlot]; repeat' split
  all_goals simp
@[simp] theorem armSlot_ls (s : State) : (armSlot s).ls = s.ls := by
  simp only [armSlot]; repeat' split
  all_goals simp
@[simp] theorem armSlot_demand (s : State) : (armSlot s).demand = s.demand := by
  simp only [armSlot]; repeat' split
  all_goals simp
@[simp] theorem armSlot_shed (s : State) : (armSlot s).shed = s.shed := by
  simp only [armSlot]; repeat' split
  all_goals simp
@[simp] theorem armSlot_port (s : State) : (armSlot s).port = s.port := by
  simp only [armSlot]; repeat' split
  all_goals simp
@[simp] theorem armSlot_freeIndex (s : State) : (armSlot s).freeIndex = s.freeIndex := by
  simp only [armSlot]; repeat' split
  all_goals simp
@[simp] theorem armSlot_pending (s : State) : (armSlot s).pending = s.pending := by
  simp only [armSlot]; repeat' split
  all_goals simp
@[simp] theorem writeRow_ctl (r : RawRow) (s : State) : (writeRow r s).ctl = s.ctl := by
  simp only [writeRow]; repeat' split
  all_goals simp
@[simp] theorem writeRow_intake (r : RawRow) (s : State) : (writeRow r s).intake = s.intake := by
  simp only [writeRow]; repeat' split
  all_goals simp
@[simp] theorem writeRow_link (r : RawRow) (s : State) : (writeRow r s).link = s.link := by
  simp only [writeRow]; repeat' split
  all_goals simp
@[simp] theorem writeRow_view (r : RawRow) (s : State) : (writeRow r s).view = s.view := by
  simp only [writeRow]; repeat' split
  all_goals simp
@[simp] theorem writeRow_ls (r : RawRow) (s : State) : (writeRow r s).ls = s.ls := by
  simp only [writeRow]; repeat' split
  all_goals simp
@[simp] theorem writeRow_demand (r : RawRow) (s : State) : (writeRow r s).demand = s.demand := by
  simp only [writeRow]; repeat' split
  all_goals simp
@[simp] theorem writeRow_shed (r : RawRow) (s : State) : (writeRow r s).shed = s.shed := by
  simp only [writeRow]; repeat' split
  all_goals simp
@[simp] theorem writeRow_freeIndex (r : RawRow) (s : State) : (writeRow r s).freeIndex = s.freeIndex := by
  simp only [writeRow]; repeat' split
  all_goals simp
@[simp] theorem writeRow_pending (r : RawRow) (s : State) : (writeRow r s).pending = s.pending := by
  simp only [writeRow]; repeat' split
  all_goals simp
@[simp] theorem offerTrigger_ctl (cause : TriggerCause) (s : State) : (offerTrigger cause s).ctl = s.ctl := by
  simp [offerTrigger]
@[simp] theorem offerTrigger_intake (cause : TriggerCause) (s : State) : (offerTrigger cause s).intake = s.intake := by
  simp [offerTrigger]
@[simp] theorem offerTrigger_link (cause : TriggerCause) (s : State) : (offerTrigger cause s).link = s.link := by
  simp [offerTrigger]
@[simp] theorem offerTrigger_view (cause : TriggerCause) (s : State) : (offerTrigger cause s).view = s.view := by
  simp [offerTrigger]
@[simp] theorem offerTrigger_ls (cause : TriggerCause) (s : State) : (offerTrigger cause s).ls = s.ls := by
  simp [offerTrigger]
@[simp] theorem offerTrigger_demand (cause : TriggerCause) (s : State) : (offerTrigger cause s).demand = s.demand := by
  simp [offerTrigger]
@[simp] theorem offerTrigger_shed (cause : TriggerCause) (s : State) : (offerTrigger cause s).shed = s.shed := by
  simp [offerTrigger]
@[simp] theorem offerTrigger_freeIndex (cause : TriggerCause) (s : State) : (offerTrigger cause s).freeIndex = s.freeIndex := by
  simp [offerTrigger]
@[simp] theorem offerTrigger_pending (cause : TriggerCause) (s : State) : (offerTrigger cause s).pending = s.pending := by
  simp [offerTrigger]
@[simp] theorem standbyCapture_ctl (s : State) : (standbyCapture s).ctl = s.ctl := by
  simp only [standbyCapture]; repeat' split
  all_goals simp
@[simp] theorem standbyCapture_intake (s : State) : (standbyCapture s).intake = s.intake := by
  simp only [standbyCapture]; repeat' split
  all_goals simp
@[simp] theorem standbyCapture_link (s : State) : (standbyCapture s).link = s.link := by
  simp only [standbyCapture]; repeat' split
  all_goals simp
@[simp] theorem standbyCapture_view (s : State) : (standbyCapture s).view = s.view := by
  simp only [standbyCapture]; repeat' split
  all_goals simp
@[simp] theorem standbyCapture_ls (s : State) : (standbyCapture s).ls = s.ls := by
  simp only [standbyCapture]; repeat' split
  all_goals simp
@[simp] theorem standbyCapture_demand (s : State) : (standbyCapture s).demand = s.demand := by
  simp only [standbyCapture]; repeat' split
  all_goals simp
@[simp] theorem standbyCapture_shed (s : State) : (standbyCapture s).shed = s.shed := by
  simp only [standbyCapture]; repeat' split
  all_goals simp
@[simp] theorem standbyCapture_freeIndex (s : State) : (standbyCapture s).freeIndex = s.freeIndex := by
  simp only [standbyCapture]; repeat' split
  all_goals simp
@[simp] theorem standbyCapture_pending (s : State) : (standbyCapture s).pending = s.pending := by
  simp only [standbyCapture]; repeat' split
  all_goals simp
@[simp] theorem disarmSlot_ctl (s : State) : (disarmSlot s).ctl = s.ctl := by
  simp only [disarmSlot]; repeat' split
  all_goals simp
@[simp] theorem disarmSlot_intake (s : State) : (disarmSlot s).intake = s.intake := by
  simp only [disarmSlot]; repeat' split
  all_goals simp
@[simp] theorem disarmSlot_link (s : State) : (disarmSlot s).link = s.link := by
  simp only [disarmSlot]; repeat' split
  all_goals simp
@[simp] theorem disarmSlot_view (s : State) : (disarmSlot s).view = s.view := by
  simp only [disarmSlot]; repeat' split
  all_goals simp
@[simp] theorem disarmSlot_ls (s : State) : (disarmSlot s).ls = s.ls := by
  simp only [disarmSlot]; repeat' split
  all_goals simp
@[simp] theorem disarmSlot_demand (s : State) : (disarmSlot s).demand = s.demand := by
  simp only [disarmSlot]; repeat' split
  all_goals simp
@[simp] theorem disarmSlot_shed (s : State) : (disarmSlot s).shed = s.shed := by
  simp only [disarmSlot]; repeat' split
  all_goals simp
@[simp] theorem disarmSlot_port (s : State) : (disarmSlot s).port = s.port := by
  simp only [disarmSlot]; repeat' split
  all_goals simp
@[simp] theorem disarmSlot_freeIndex (s : State) : (disarmSlot s).freeIndex = s.freeIndex := by
  simp only [disarmSlot]; repeat' split
  all_goals simp
@[simp] theorem disarmSlot_pending (s : State) : (disarmSlot s).pending = s.pending := by
  simp only [disarmSlot]; repeat' split
  all_goals simp
@[simp] theorem freeHead_ctl (s : State) : (freeHead s).ctl = s.ctl := by
  simp only [freeHead]; repeat' split
  all_goals simp
@[simp] theorem freeHead_intake (s : State) : (freeHead s).intake = s.intake := by
  simp only [freeHead]; repeat' split
  all_goals simp
@[simp] theorem freeHead_link (s : State) : (freeHead s).link = s.link := by
  simp only [freeHead]; repeat' split
  all_goals simp
@[simp] theorem freeHead_view (s : State) : (freeHead s).view = s.view := by
  simp only [freeHead]; repeat' split
  all_goals simp
@[simp] theorem freeHead_ls (s : State) : (freeHead s).ls = s.ls := by
  simp only [freeHead]; repeat' split
  all_goals simp
@[simp] theorem freeHead_demand (s : State) : (freeHead s).demand = s.demand := by
  simp only [freeHead]; repeat' split
  all_goals simp
@[simp] theorem freeHead_shed (s : State) : (freeHead s).shed = s.shed := by
  simp only [freeHead]; repeat' split
  all_goals simp
@[simp] theorem freeHead_port (s : State) : (freeHead s).port = s.port := by
  simp only [freeHead]; repeat' split
  all_goals simp
@[simp] theorem freeHead_freeIndex (s : State) : (freeHead s).freeIndex = s.freeIndex := by
  simp only [freeHead]; repeat' split
  all_goals simp
@[simp] theorem freeHead_pending (s : State) : (freeHead s).pending = s.pending := by
  simp only [freeHead]; repeat' split
  all_goals simp
@[simp] theorem formSums_ctl (s : State) : (formSums s).ctl = s.ctl := rfl
@[simp] theorem formSums_intake (s : State) : (formSums s).intake = s.intake := rfl
@[simp] theorem formSums_link (s : State) : (formSums s).link = s.link := rfl
@[simp] theorem formSums_ls (s : State) : (formSums s).ls = s.ls := rfl
@[simp] theorem formSums_demand (s : State) : (formSums s).demand = s.demand := rfl
@[simp] theorem formSums_shed (s : State) : (formSums s).shed = s.shed := rfl
@[simp] theorem formSums_cap (s : State) : (formSums s).cap = s.cap := rfl
@[simp] theorem formSums_port (s : State) : (formSums s).port = s.port := rfl
@[simp] theorem formSums_freeIndex (s : State) : (formSums s).freeIndex = s.freeIndex := rfl
@[simp] theorem formSums_pending (s : State) : (formSums s).pending = s.pending := rfl
@[simp] theorem setSettlesClosed_ctl (s : State) : (setSettlesClosed s).ctl = s.ctl := by
  simp only [setSettlesClosed]; repeat' split
  all_goals simp
@[simp] theorem setSettlesClosed_intake (s : State) : (setSettlesClosed s).intake = s.intake := by
  simp only [setSettlesClosed]; repeat' split
  all_goals simp
@[simp] theorem setSettlesClosed_link (s : State) : (setSettlesClosed s).link = s.link := by
  simp only [setSettlesClosed]; repeat' split
  all_goals simp
@[simp] theorem setSettlesClosed_view (s : State) : (setSettlesClosed s).view = s.view := by
  simp only [setSettlesClosed]; repeat' split
  all_goals simp
@[simp] theorem setSettlesClosed_shed (s : State) : (setSettlesClosed s).shed = s.shed := by
  simp only [setSettlesClosed]; repeat' split
  all_goals simp
@[simp] theorem setSettlesClosed_cap (s : State) : (setSettlesClosed s).cap = s.cap := by
  simp only [setSettlesClosed]; repeat' split
  all_goals simp
@[simp] theorem setSettlesClosed_freeIndex (s : State) : (setSettlesClosed s).freeIndex = s.freeIndex := by
  simp only [setSettlesClosed]; repeat' split
  all_goals simp
@[simp] theorem setSettlesClosed_pending (s : State) : (setSettlesClosed s).pending = s.pending := by
  simp only [setSettlesClosed]; repeat' split
  all_goals simp
@[simp] theorem takeUpSet_ctl (s : State) : (takeUpSet s).ctl = s.ctl := by
  simp only [takeUpSet]; repeat' split
  all_goals simp
@[simp] theorem takeUpSet_intake (s : State) : (takeUpSet s).intake = s.intake := by
  simp only [takeUpSet]; repeat' split
  all_goals simp
@[simp] theorem takeUpSet_link (s : State) : (takeUpSet s).link = s.link := by
  simp only [takeUpSet]; repeat' split
  all_goals simp
@[simp] theorem takeUpSet_view (s : State) : (takeUpSet s).view = s.view := by
  simp only [takeUpSet]; repeat' split
  all_goals simp
@[simp] theorem takeUpSet_demand (s : State) : (takeUpSet s).demand = s.demand := by
  simp only [takeUpSet]; repeat' split
  all_goals simp
@[simp] theorem takeUpSet_shed (s : State) : (takeUpSet s).shed = s.shed := by
  simp only [takeUpSet]; repeat' split
  all_goals simp
@[simp] theorem takeUpSet_cap (s : State) : (takeUpSet s).cap = s.cap := by
  simp only [takeUpSet]; repeat' split
  all_goals simp
@[simp] theorem takeUpSet_freeIndex (s : State) : (takeUpSet s).freeIndex = s.freeIndex := by
  simp only [takeUpSet]; repeat' split
  all_goals simp
@[simp] theorem takeUpSet_pending (s : State) : (takeUpSet s).pending = s.pending := by
  simp only [takeUpSet]; repeat' split
  all_goals simp
@[simp] theorem tripSet_ctl (s : State) : (tripSet s).ctl = s.ctl := by
  simp [tripSet]
@[simp] theorem tripSet_intake (s : State) : (tripSet s).intake = s.intake := by
  simp [tripSet]
@[simp] theorem tripSet_view (s : State) : (tripSet s).view = s.view := by
  simp [tripSet]
@[simp] theorem tripSet_demand (s : State) : (tripSet s).demand = s.demand := by
  simp [tripSet]
@[simp] theorem tripSet_shed (s : State) : (tripSet s).shed = s.shed := by
  simp [tripSet]
@[simp] theorem tripSet_freeIndex (s : State) : (tripSet s).freeIndex = s.freeIndex := by
  simp [tripSet]
@[simp] theorem tripSet_pending (s : State) : (tripSet s).pending = s.pending := by
  simp [tripSet]
@[simp] theorem setSettlesOpen_ctl (s : State) : (setSettlesOpen s).ctl = s.ctl := by
  simp only [setSettlesOpen]; repeat' split
  all_goals simp
@[simp] theorem setSettlesOpen_intake (s : State) : (setSettlesOpen s).intake = s.intake := by
  simp only [setSettlesOpen]; repeat' split
  all_goals simp
@[simp] theorem setSettlesOpen_view (s : State) : (setSettlesOpen s).view = s.view := by
  simp only [setSettlesOpen]; repeat' split
  all_goals simp
@[simp] theorem setSettlesOpen_demand (s : State) : (setSettlesOpen s).demand = s.demand := by
  simp only [setSettlesOpen]; repeat' split
  all_goals simp
@[simp] theorem setSettlesOpen_shed (s : State) : (setSettlesOpen s).shed = s.shed := by
  simp only [setSettlesOpen]; repeat' split
  all_goals simp
@[simp] theorem setSettlesOpen_freeIndex (s : State) : (setSettlesOpen s).freeIndex = s.freeIndex := by
  simp only [setSettlesOpen]; repeat' split
  all_goals simp
@[simp] theorem setSettlesOpen_pending (s : State) : (setSettlesOpen s).pending = s.pending := by
  simp only [setSettlesOpen]; repeat' split
  all_goals simp
@[simp] theorem increaseCut_ctl (cut : Nat) (cause : Option ShedCause) (s : State) : (increaseCut cut cause s).ctl = s.ctl := by
  simp only [increaseCut]; repeat' split
  all_goals simp
@[simp] theorem increaseCut_intake (cut : Nat) (cause : Option ShedCause) (s : State) : (increaseCut cut cause s).intake = s.intake := by
  simp only [increaseCut]; repeat' split
  all_goals simp
@[simp] theorem increaseCut_view (cut : Nat) (cause : Option ShedCause) (s : State) : (increaseCut cut cause s).view = s.view := by
  simp only [increaseCut]; repeat' split
  all_goals simp
@[simp] theorem increaseCut_demand (cut : Nat) (cause : Option ShedCause) (s : State) : (increaseCut cut cause s).demand = s.demand := by
  simp only [increaseCut]; repeat' split
  all_goals simp
@[simp] theorem increaseCut_freeIndex (cut : Nat) (cause : Option ShedCause) (s : State) : (increaseCut cut cause s).freeIndex = s.freeIndex := by
  simp only [increaseCut]; repeat' split
  all_goals simp
@[simp] theorem increaseCut_pending (cut : Nat) (cause : Option ShedCause) (s : State) : (increaseCut cut cause s).pending = s.pending := by
  simp only [increaseCut]; repeat' split
  all_goals simp
@[simp] theorem restoreOne_ctl (s : State) : (restoreOne s).ctl = s.ctl := rfl
@[simp] theorem restoreOne_intake (s : State) : (restoreOne s).intake = s.intake := rfl
@[simp] theorem restoreOne_link (s : State) : (restoreOne s).link = s.link := rfl
@[simp] theorem restoreOne_view (s : State) : (restoreOne s).view = s.view := rfl
@[simp] theorem restoreOne_ls (s : State) : (restoreOne s).ls = s.ls := rfl
@[simp] theorem restoreOne_demand (s : State) : (restoreOne s).demand = s.demand := rfl
@[simp] theorem restoreOne_cap (s : State) : (restoreOne s).cap = s.cap := rfl
@[simp] theorem restoreOne_freeIndex (s : State) : (restoreOne s).freeIndex = s.freeIndex := rfl
@[simp] theorem restoreOne_pending (s : State) : (restoreOne s).pending = s.pending := rfl
@[simp] theorem evaluateCapacity_ctl (s : State) : (evaluateCapacity s).ctl = s.ctl := by
  simp only [evaluateCapacity]; repeat' split
  all_goals simp
@[simp] theorem evaluateCapacity_intake (s : State) : (evaluateCapacity s).intake = s.intake := by
  simp only [evaluateCapacity]; repeat' split
  all_goals simp
@[simp] theorem evaluateCapacity_view (s : State) : (evaluateCapacity s).view = s.view := by
  simp only [evaluateCapacity]; repeat' split
  all_goals simp
@[simp] theorem evaluateCapacity_demand (s : State) : (evaluateCapacity s).demand = s.demand := by
  simp only [evaluateCapacity]; repeat' split
  all_goals simp
@[simp] theorem evaluateCapacity_freeIndex (s : State) : (evaluateCapacity s).freeIndex = s.freeIndex := by
  simp only [evaluateCapacity]; repeat' split
  all_goals simp
@[simp] theorem evaluateCapacity_pending (s : State) : (evaluateCapacity s).pending = s.pending := by
  simp only [evaluateCapacity]; repeat' split
  all_goals simp
@[simp] theorem ladderTest_ctl (s : State) : (ladderTest s).ctl = s.ctl := by
  simp only [ladderTest]; repeat' split
  all_goals simp
@[simp] theorem ladderTest_intake (s : State) : (ladderTest s).intake = s.intake := by
  simp only [ladderTest]; repeat' split
  all_goals simp
@[simp] theorem ladderTest_view (s : State) : (ladderTest s).view = s.view := by
  simp only [ladderTest]; repeat' split
  all_goals simp
@[simp] theorem ladderTest_demand (s : State) : (ladderTest s).demand = s.demand := by
  simp only [ladderTest]; repeat' split
  all_goals simp
@[simp] theorem ladderTest_freeIndex (s : State) : (ladderTest s).freeIndex = s.freeIndex := by
  simp only [ladderTest]; repeat' split
  all_goals simp
@[simp] theorem ladderTest_pending (s : State) : (ladderTest s).pending = s.pending := by
  simp only [ladderTest]; repeat' split
  all_goals simp
@[simp] theorem deadEntry_ctl (s : State) : (deadEntry s).ctl = s.ctl := by
  simp only [deadEntry]; repeat' split
  all_goals simp
@[simp] theorem deadEntry_intake (s : State) : (deadEntry s).intake = s.intake := by
  simp only [deadEntry]; repeat' split
  all_goals simp
@[simp] theorem deadEntry_view (s : State) : (deadEntry s).view = s.view := by
  simp only [deadEntry]; repeat' split
  all_goals simp
@[simp] theorem deadEntry_demand (s : State) : (deadEntry s).demand = s.demand := by
  simp only [deadEntry]; repeat' split
  all_goals simp
@[simp] theorem deadEntry_freeIndex (s : State) : (deadEntry s).freeIndex = s.freeIndex := by
  simp only [deadEntry]; repeat' split
  all_goals simp
@[simp] theorem deadEntry_pending (s : State) : (deadEntry s).pending = s.pending := by
  simp only [deadEntry]; repeat' split
  all_goals simp
@[simp] theorem adopt_ctl (cut : Nat) (b : Bool) (s : State) : (adopt cut b s).ctl = s.ctl := by
  simp only [adopt]; repeat' split
  all_goals simp
@[simp] theorem adopt_intake (cut : Nat) (b : Bool) (s : State) : (adopt cut b s).intake = s.intake := by
  simp only [adopt]; repeat' split
  all_goals simp
@[simp] theorem adopt_view (cut : Nat) (b : Bool) (s : State) : (adopt cut b s).view = s.view := by
  simp only [adopt]; repeat' split
  all_goals simp
@[simp] theorem adopt_demand (cut : Nat) (b : Bool) (s : State) : (adopt cut b s).demand = s.demand := by
  simp only [adopt]; repeat' split
  all_goals simp
@[simp] theorem adopt_freeIndex (cut : Nat) (b : Bool) (s : State) : (adopt cut b s).freeIndex = s.freeIndex := by
  simp only [adopt]; repeat' split
  all_goals simp
@[simp] theorem adopt_pending (cut : Nat) (b : Bool) (s : State) : (adopt cut b s).pending = s.pending := by
  simp only [adopt]; repeat' split
  all_goals simp
@[simp] theorem deficitAbandons_ctl (s : State) : (deficitAbandons s).ctl = s.ctl := by
  simp only [deficitAbandons]; repeat' split
  all_goals simp
@[simp] theorem deficitAbandons_intake (s : State) : (deficitAbandons s).intake = s.intake := by
  simp only [deficitAbandons]; repeat' split
  all_goals simp
@[simp] theorem deficitAbandons_link (s : State) : (deficitAbandons s).link = s.link := by
  simp only [deficitAbandons]; repeat' split
  all_goals simp
@[simp] theorem deficitAbandons_view (s : State) : (deficitAbandons s).view = s.view := by
  simp only [deficitAbandons]; repeat' split
  all_goals simp
@[simp] theorem deficitAbandons_demand (s : State) : (deficitAbandons s).demand = s.demand := by
  simp only [deficitAbandons]; repeat' split
  all_goals simp
@[simp] theorem deficitAbandons_shed (s : State) : (deficitAbandons s).shed = s.shed := by
  simp only [deficitAbandons]; repeat' split
  all_goals simp
@[simp] theorem deficitAbandons_cap (s : State) : (deficitAbandons s).cap = s.cap := by
  simp only [deficitAbandons]; repeat' split
  all_goals simp
@[simp] theorem deficitAbandons_freeIndex (s : State) : (deficitAbandons s).freeIndex = s.freeIndex := by
  simp only [deficitAbandons]; repeat' split
  all_goals simp
@[simp] theorem deficitAbandons_pending (s : State) : (deficitAbandons s).pending = s.pending := by
  simp only [deficitAbandons]; repeat' split
  all_goals simp
@[simp] theorem evaluateInRun_ctl (s : State) : (evaluateInRun s).ctl = s.ctl := by
  simp only [evaluateInRun]; repeat' split
  all_goals simp
@[simp] theorem evaluateInRun_intake (s : State) : (evaluateInRun s).intake = s.intake := by
  simp only [evaluateInRun]; repeat' split
  all_goals simp
@[simp] theorem evaluateInRun_view (s : State) : (evaluateInRun s).view = s.view := by
  simp only [evaluateInRun]; repeat' split
  all_goals simp
@[simp] theorem evaluateInRun_demand (s : State) : (evaluateInRun s).demand = s.demand := by
  simp only [evaluateInRun]; repeat' split
  all_goals simp
@[simp] theorem evaluateInRun_freeIndex (s : State) : (evaluateInRun s).freeIndex = s.freeIndex := by
  simp only [evaluateInRun]; repeat' split
  all_goals simp
@[simp] theorem evaluateInRun_pending (s : State) : (evaluateInRun s).pending = s.pending := by
  simp only [evaluateInRun]; repeat' split
  all_goals simp
@[simp] theorem immediateSums_ctl (s : State) : (immediateSums s).ctl = s.ctl := by
  simp [immediateSums]
@[simp] theorem immediateSums_intake (s : State) : (immediateSums s).intake = s.intake := by
  simp [immediateSums]
@[simp] theorem immediateSums_demand (s : State) : (immediateSums s).demand = s.demand := by
  simp [immediateSums]
@[simp] theorem immediateSums_freeIndex (s : State) : (immediateSums s).freeIndex = s.freeIndex := by
  simp [immediateSums]
@[simp] theorem immediateSums_pending (s : State) : (immediateSums s).pending = s.pending := by
  simp [immediateSums]
@[simp] theorem zeroRestore_ctl (s : State) : (zeroRestore s).ctl = s.ctl := rfl
@[simp] theorem zeroRestore_intake (s : State) : (zeroRestore s).intake = s.intake := rfl
@[simp] theorem zeroRestore_link (s : State) : (zeroRestore s).link = s.link := rfl
@[simp] theorem zeroRestore_view (s : State) : (zeroRestore s).view = s.view := rfl
@[simp] theorem zeroRestore_ls (s : State) : (zeroRestore s).ls = s.ls := rfl
@[simp] theorem zeroRestore_demand (s : State) : (zeroRestore s).demand = s.demand := rfl
@[simp] theorem zeroRestore_cap (s : State) : (zeroRestore s).cap = s.cap := rfl
@[simp] theorem zeroRestore_port (s : State) : (zeroRestore s).port = s.port := rfl
@[simp] theorem zeroRestore_freeIndex (s : State) : (zeroRestore s).freeIndex = s.freeIndex := rfl
@[simp] theorem zeroRestore_pending (s : State) : (zeroRestore s).pending = s.pending := rfl
@[simp] theorem deriveTieNow_ctl (s : State) : (deriveTieNow s).ctl = s.ctl := by
  simp only [deriveTieNow]; repeat' split
  all_goals simp
@[simp] theorem deriveTieNow_intake (s : State) : (deriveTieNow s).intake = s.intake := by
  simp only [deriveTieNow]; repeat' split
  all_goals simp
@[simp] theorem deriveTieNow_demand (s : State) : (deriveTieNow s).demand = s.demand := by
  simp only [deriveTieNow]; repeat' split
  all_goals simp
@[simp] theorem deriveTieNow_freeIndex (s : State) : (deriveTieNow s).freeIndex = s.freeIndex := by
  simp only [deriveTieNow]; repeat' split
  all_goals simp
@[simp] theorem deriveTieNow_pending (s : State) : (deriveTieNow s).pending = s.pending := by
  simp only [deriveTieNow]; repeat' split
  all_goals simp
@[simp] theorem zeroNeedTimers_ctl (s : State) : (zeroNeedTimers s).ctl = s.ctl := rfl
@[simp] theorem zeroNeedTimers_intake (s : State) : (zeroNeedTimers s).intake = s.intake := rfl
@[simp] theorem zeroNeedTimers_link (s : State) : (zeroNeedTimers s).link = s.link := rfl
@[simp] theorem zeroNeedTimers_view (s : State) : (zeroNeedTimers s).view = s.view := rfl
@[simp] theorem zeroNeedTimers_ls (s : State) : (zeroNeedTimers s).ls = s.ls := rfl
@[simp] theorem zeroNeedTimers_cap (s : State) : (zeroNeedTimers s).cap = s.cap := rfl
@[simp] theorem zeroNeedTimers_port (s : State) : (zeroNeedTimers s).port = s.port := rfl
@[simp] theorem zeroNeedTimers_freeIndex (s : State) : (zeroNeedTimers s).freeIndex = s.freeIndex := rfl
@[simp] theorem zeroNeedTimers_pending (s : State) : (zeroNeedTimers s).pending = s.pending := rfl
@[simp] theorem toStation_intake (x : StationState) (s : State) : (toStation x s).intake = s.intake := rfl
@[simp] theorem toStation_link (x : StationState) (s : State) : (toStation x s).link = s.link := rfl
@[simp] theorem toStation_view (x : StationState) (s : State) : (toStation x s).view = s.view := rfl
@[simp] theorem toStation_ls (x : StationState) (s : State) : (toStation x s).ls = s.ls := rfl
@[simp] theorem toStation_demand (x : StationState) (s : State) : (toStation x s).demand = s.demand := rfl
@[simp] theorem toStation_shed (x : StationState) (s : State) : (toStation x s).shed = s.shed := rfl
@[simp] theorem toStation_cap (x : StationState) (s : State) : (toStation x s).cap = s.cap := rfl
@[simp] theorem toStation_port (x : StationState) (s : State) : (toStation x s).port = s.port := rfl
@[simp] theorem toStation_freeIndex (x : StationState) (s : State) : (toStation x s).freeIndex = s.freeIndex := rfl
@[simp] theorem toStation_pending (x : StationState) (s : State) : (toStation x s).pending = s.pending := rfl
@[simp] theorem enterFallback_intake (s : State) : (enterFallback s).intake = s.intake := by
  simp [enterFallback]
@[simp] theorem enterFallback_link (s : State) : (enterFallback s).link = s.link := by
  simp [enterFallback]
@[simp] theorem enterFallback_view (s : State) : (enterFallback s).view = s.view := by
  simp [enterFallback]
@[simp] theorem enterFallback_cap (s : State) : (enterFallback s).cap = s.cap := by
  simp [enterFallback]
@[simp] theorem enterFallback_freeIndex (s : State) : (enterFallback s).freeIndex = s.freeIndex := by
  simp [enterFallback]
@[simp] theorem enterFallback_pending (s : State) : (enterFallback s).pending = s.pending := by
  simp [enterFallback]
@[simp] theorem transmitFailure_intake (s : State) : (transmitFailure s).intake = s.intake := by
  simp only [transmitFailure]; repeat' split
  all_goals simp
@[simp] theorem transmitFailure_link (s : State) : (transmitFailure s).link = s.link := by
  simp only [transmitFailure]; repeat' split
  all_goals simp
@[simp] theorem transmitFailure_view (s : State) : (transmitFailure s).view = s.view := by
  simp only [transmitFailure]; repeat' split
  all_goals simp
@[simp] theorem transmitFailure_cap (s : State) : (transmitFailure s).cap = s.cap := by
  simp only [transmitFailure]; repeat' split
  all_goals simp
@[simp] theorem transmitFailure_freeIndex (s : State) : (transmitFailure s).freeIndex = s.freeIndex := by
  simp only [transmitFailure]; repeat' split
  all_goals simp
@[simp] theorem transmitFailure_pending (s : State) : (transmitFailure s).pending = s.pending := by
  simp only [transmitFailure]; repeat' split
  all_goals simp
@[simp] theorem enterSilent_intake (s : State) : (enterSilent s).intake = s.intake := by
  simp only [enterSilent]; repeat' split
  all_goals simp
@[simp] theorem enterSilent_view (s : State) : (enterSilent s).view = s.view := by
  simp only [enterSilent]; repeat' split
  all_goals simp
@[simp] theorem enterSilent_cap (s : State) : (enterSilent s).cap = s.cap := by
  simp only [enterSilent]; repeat' split
  all_goals simp
@[simp] theorem enterSilent_freeIndex (s : State) : (enterSilent s).freeIndex = s.freeIndex := by
  simp only [enterSilent]; repeat' split
  all_goals simp
@[simp] theorem enterSilent_pending (s : State) : (enterSilent s).pending = s.pending := by
  simp only [enterSilent]; repeat' split
  all_goals simp
@[simp] theorem addressClash_intake (s : State) : (addressClash s).intake = s.intake := by
  simp only [addressClash]; repeat' split
  all_goals simp
@[simp] theorem addressClash_view (s : State) : (addressClash s).view = s.view := by
  simp only [addressClash]; repeat' split
  all_goals simp
@[simp] theorem addressClash_cap (s : State) : (addressClash s).cap = s.cap := by
  simp only [addressClash]; repeat' split
  all_goals simp
@[simp] theorem addressClash_freeIndex (s : State) : (addressClash s).freeIndex = s.freeIndex := by
  simp only [addressClash]; repeat' split
  all_goals simp
@[simp] theorem addressClash_pending (s : State) : (addressClash s).pending = s.pending := by
  simp only [addressClash]; repeat' split
  all_goals simp
@[simp] theorem enterRun_intake (s : State) : (enterRun s).intake = s.intake := by
  simp [enterRun]
@[simp] theorem enterRun_view (s : State) : (enterRun s).view = s.view := by
  simp [enterRun]
@[simp] theorem enterRun_demand (s : State) : (enterRun s).demand = s.demand := by
  simp [enterRun]
@[simp] theorem enterRun_shed (s : State) : (enterRun s).shed = s.shed := by
  simp [enterRun]
@[simp] theorem enterRun_cap (s : State) : (enterRun s).cap = s.cap := by
  simp [enterRun]
@[simp] theorem enterRun_freeIndex (s : State) : (enterRun s).freeIndex = s.freeIndex := by
  simp [enterRun]
@[simp] theorem enterRun_pending (s : State) : (enterRun s).pending = s.pending := by
  simp [enterRun]
@[simp] theorem returnToRun_intake (s : State) : (returnToRun s).intake = s.intake := by
  simp [returnToRun]
@[simp] theorem returnToRun_link (s : State) : (returnToRun s).link = s.link := by
  simp [returnToRun]
@[simp] theorem returnToRun_view (s : State) : (returnToRun s).view = s.view := by
  simp [returnToRun]
@[simp] theorem returnToRun_demand (s : State) : (returnToRun s).demand = s.demand := by
  simp [returnToRun]
@[simp] theorem returnToRun_shed (s : State) : (returnToRun s).shed = s.shed := by
  simp [returnToRun]
@[simp] theorem returnToRun_cap (s : State) : (returnToRun s).cap = s.cap := by
  simp [returnToRun]
@[simp] theorem returnToRun_freeIndex (s : State) : (returnToRun s).freeIndex = s.freeIndex := by
  simp [returnToRun]
@[simp] theorem returnToRun_pending (s : State) : (returnToRun s).pending = s.pending := by
  simp [returnToRun]
@[simp] theorem standbyReady_ctl (s : State) : (standbyReady s).ctl = s.ctl := by
  simp [standbyReady]
@[simp] theorem standbyReady_intake (s : State) : (standbyReady s).intake = s.intake := by
  simp [standbyReady]
@[simp] theorem standbyReady_link (s : State) : (standbyReady s).link = s.link := by
  simp [standbyReady]
@[simp] theorem standbyReady_view (s : State) : (standbyReady s).view = s.view := by
  simp [standbyReady]
@[simp] theorem standbyReady_ls (s : State) : (standbyReady s).ls = s.ls := by
  simp [standbyReady]
@[simp] theorem standbyReady_demand (s : State) : (standbyReady s).demand = s.demand := by
  simp [standbyReady]
@[simp] theorem standbyReady_shed (s : State) : (standbyReady s).shed = s.shed := by
  simp [standbyReady]
@[simp] theorem standbyReady_cap (s : State) : (standbyReady s).cap = s.cap := by
  simp [standbyReady]
@[simp] theorem standbyReady_freeIndex (s : State) : (standbyReady s).freeIndex = s.freeIndex := by
  simp [standbyReady]
@[simp] theorem standbyReady_pending (s : State) : (standbyReady s).pending = s.pending := by
  simp [standbyReady]
@[simp] theorem enterStandbyState_freeIndex (s : State) : (enterStandbyState s).freeIndex = s.freeIndex := by
  simp [enterStandbyState]
@[simp] theorem enterStandbyState_pending (s : State) : (enterStandbyState s).pending = s.pending := by
  simp [enterStandbyState]
@[simp] theorem enterListen_intake (s : State) : (enterListen s).intake = s.intake := by
  simp [enterListen]
@[simp] theorem enterListen_view (s : State) : (enterListen s).view = s.view := by
  simp [enterListen]
@[simp] theorem enterListen_ls (s : State) : (enterListen s).ls = s.ls := by
  simp [enterListen]
@[simp] theorem enterListen_port (s : State) : (enterListen s).port = s.port := by
  simp [enterListen]
@[simp] theorem enterListen_freeIndex (s : State) : (enterListen s).freeIndex = s.freeIndex := by
  simp [enterListen]
@[simp] theorem enterListen_pending (s : State) : (enterListen s).pending = s.pending := by
  simp [enterListen]
@[simp] theorem resetStation_freeIndex (pins : Straps) (cut : StoreCut) (s : State) : (resetStation pins cut s).freeIndex = s.freeIndex := by
  simp [resetStation]
@[simp] theorem resetStation_pending (pins : Straps) (cut : StoreCut) (s : State) : (resetStation pins cut s).pending = s.pending := by
  simp [resetStation]
@[simp] theorem handSetBreaker_ctl (n : BreakerNews) (s : State) : (handSetBreaker n s).ctl = s.ctl := by
  simp only [handSetBreaker]; repeat' split
  all_goals simp
@[simp] theorem handSetBreaker_intake (n : BreakerNews) (s : State) : (handSetBreaker n s).intake = s.intake := by
  simp only [handSetBreaker]; repeat' split
  all_goals simp
@[simp] theorem handSetBreaker_view (n : BreakerNews) (s : State) : (handSetBreaker n s).view = s.view := by
  simp only [handSetBreaker]; repeat' split
  all_goals simp
@[simp] theorem handSetBreaker_shed (n : BreakerNews) (s : State) : (handSetBreaker n s).shed = s.shed := by
  simp only [handSetBreaker]; repeat' split
  all_goals simp
@[simp] theorem handSetBreaker_freeIndex (n : BreakerNews) (s : State) : (handSetBreaker n s).freeIndex = s.freeIndex := by
  simp only [handSetBreaker]; repeat' split
  all_goals simp
@[simp] theorem handSetBreaker_pending (n : BreakerNews) (s : State) : (handSetBreaker n s).pending = s.pending := by
  simp only [handSetBreaker]; repeat' split
  all_goals simp
@[simp] theorem handGroupBreakers_ctl (ns : Vector BreakerNews 8) (s : State) : (handGroupBreakers ns s).ctl = s.ctl := by
  simp [handGroupBreakers]
@[simp] theorem handGroupBreakers_intake (ns : Vector BreakerNews 8) (s : State) : (handGroupBreakers ns s).intake = s.intake := by
  simp [handGroupBreakers]
@[simp] theorem handGroupBreakers_link (ns : Vector BreakerNews 8) (s : State) : (handGroupBreakers ns s).link = s.link := by
  simp [handGroupBreakers]
@[simp] theorem handGroupBreakers_view (ns : Vector BreakerNews 8) (s : State) : (handGroupBreakers ns s).view = s.view := by
  simp [handGroupBreakers]
@[simp] theorem handGroupBreakers_ls (ns : Vector BreakerNews 8) (s : State) : (handGroupBreakers ns s).ls = s.ls := by
  simp [handGroupBreakers]
@[simp] theorem handGroupBreakers_demand (ns : Vector BreakerNews 8) (s : State) : (handGroupBreakers ns s).demand = s.demand := by
  simp [handGroupBreakers]
@[simp] theorem handGroupBreakers_cap (ns : Vector BreakerNews 8) (s : State) : (handGroupBreakers ns s).cap = s.cap := by
  simp [handGroupBreakers]
@[simp] theorem handGroupBreakers_freeIndex (ns : Vector BreakerNews 8) (s : State) : (handGroupBreakers ns s).freeIndex = s.freeIndex := by
  simp [handGroupBreakers]
@[simp] theorem handGroupBreakers_pending (ns : Vector BreakerNews 8) (s : State) : (handGroupBreakers ns s).pending = s.pending := by
  simp [handGroupBreakers]
@[simp] theorem handUfSet_ctl (s : State) : (handUfSet s).ctl = s.ctl := by
  simp only [handUfSet]; repeat' split
  all_goals simp
@[simp] theorem handUfSet_intake (s : State) : (handUfSet s).intake = s.intake := by
  simp only [handUfSet]; repeat' split
  all_goals simp
@[simp] theorem handUfSet_view (s : State) : (handUfSet s).view = s.view := by
  simp only [handUfSet]; repeat' split
  all_goals simp
@[simp] theorem handUfSet_demand (s : State) : (handUfSet s).demand = s.demand := by
  simp only [handUfSet]; repeat' split
  all_goals simp
@[simp] theorem handUfSet_freeIndex (s : State) : (handUfSet s).freeIndex = s.freeIndex := by
  simp only [handUfSet]; repeat' split
  all_goals simp
@[simp] theorem handUfSet_pending (s : State) : (handUfSet s).pending = s.pending := by
  simp only [handUfSet]; repeat' split
  all_goals simp
@[simp] theorem handPart_ctl (n : SampleNews) (part : SamplePart) (s : State) : (handPart n part s).ctl = s.ctl := by
  simp only [handPart]; repeat' split
  all_goals simp
@[simp] theorem handPart_intake (n : SampleNews) (part : SamplePart) (s : State) : (handPart n part s).intake = s.intake := by
  simp only [handPart]; repeat' split
  all_goals simp
@[simp] theorem handPart_freeIndex (n : SampleNews) (part : SamplePart) (s : State) : (handPart n part s).freeIndex = s.freeIndex := by
  simp only [handPart]; repeat' split
  all_goals simp
@[simp] theorem handPart_pending (n : SampleNews) (part : SamplePart) (s : State) : (handPart n part s).pending = s.pending := by
  simp only [handPart]; repeat' split
  all_goals simp
@[simp] theorem takeSample_ctl (x : Sample) (s : State) : (takeSample x s).ctl = s.ctl := by
  simp [takeSample]
@[simp] theorem takeSample_link (x : Sample) (s : State) : (takeSample x s).link = s.link := by
  simp [takeSample]
@[simp] theorem takeSample_view (x : Sample) (s : State) : (takeSample x s).view = s.view := by
  simp [takeSample]
@[simp] theorem takeSample_demand (x : Sample) (s : State) : (takeSample x s).demand = s.demand := by
  simp [takeSample]
@[simp] theorem takeSample_shed (x : Sample) (s : State) : (takeSample x s).shed = s.shed := by
  simp [takeSample]
@[simp] theorem takeSample_cap (x : Sample) (s : State) : (takeSample x s).cap = s.cap := by
  simp [takeSample]
@[simp] theorem takeSample_freeIndex (x : Sample) (s : State) : (takeSample x s).freeIndex = s.freeIndex := by
  simp [takeSample]
@[simp] theorem takeSample_pending (x : Sample) (s : State) : (takeSample x s).pending = s.pending := by
  simp [takeSample]
@[simp] theorem takeStaged_intake (s : State) : (takeStaged s).intake = s.intake := rfl
@[simp] theorem takeStaged_link (s : State) : (takeStaged s).link = s.link := rfl
@[simp] theorem takeStaged_view (s : State) : (takeStaged s).view = s.view := rfl
@[simp] theorem takeStaged_ls (s : State) : (takeStaged s).ls = s.ls := rfl
@[simp] theorem takeStaged_demand (s : State) : (takeStaged s).demand = s.demand := rfl
@[simp] theorem takeStaged_shed (s : State) : (takeStaged s).shed = s.shed := rfl
@[simp] theorem takeStaged_cap (s : State) : (takeStaged s).cap = s.cap := rfl
@[simp] theorem takeStaged_port (s : State) : (takeStaged s).port = s.port := rfl
@[simp] theorem takeStaged_freeIndex (s : State) : (takeStaged s).freeIndex = s.freeIndex := rfl
@[simp] theorem takeStaged_pending (s : State) : (takeStaged s).pending = s.pending := rfl
@[simp] theorem applyStaged_intake (s : State) : (applyStaged s).intake = s.intake := by
  simp only [applyStaged]; repeat' split
  all_goals simp
@[simp] theorem applyStaged_link (s : State) : (applyStaged s).link = s.link := by
  simp only [applyStaged]; repeat' split
  all_goals simp
@[simp] theorem applyStaged_view (s : State) : (applyStaged s).view = s.view := by
  simp only [applyStaged]; repeat' split
  all_goals simp
@[simp] theorem applyStaged_ls (s : State) : (applyStaged s).ls = s.ls := by
  simp only [applyStaged]; repeat' split
  all_goals simp
@[simp] theorem applyStaged_demand (s : State) : (applyStaged s).demand = s.demand := by
  simp only [applyStaged]; repeat' split
  all_goals simp
@[simp] theorem applyStaged_shed (s : State) : (applyStaged s).shed = s.shed := by
  simp only [applyStaged]; repeat' split
  all_goals simp
@[simp] theorem applyStaged_port (s : State) : (applyStaged s).port = s.port := by
  simp only [applyStaged]; repeat' split
  all_goals simp
@[simp] theorem applyStaged_freeIndex (s : State) : (applyStaged s).freeIndex = s.freeIndex := by
  simp only [applyStaged]; repeat' split
  all_goals simp
@[simp] theorem applyStaged_pending (s : State) : (applyStaged s).pending = s.pending := by
  simp only [applyStaged]; repeat' split
  all_goals simp
@[simp] theorem closePeriod_ctl (s : State) : (closePeriod s).ctl = s.ctl := rfl
@[simp] theorem closePeriod_link (s : State) : (closePeriod s).link = s.link := rfl
@[simp] theorem closePeriod_view (s : State) : (closePeriod s).view = s.view := rfl
@[simp] theorem closePeriod_ls (s : State) : (closePeriod s).ls = s.ls := rfl
@[simp] theorem closePeriod_demand (s : State) : (closePeriod s).demand = s.demand := rfl
@[simp] theorem closePeriod_shed (s : State) : (closePeriod s).shed = s.shed := rfl
@[simp] theorem closePeriod_cap (s : State) : (closePeriod s).cap = s.cap := rfl
@[simp] theorem closePeriod_port (s : State) : (closePeriod s).port = s.port := rfl
@[simp] theorem closePeriod_freeIndex (s : State) : (closePeriod s).freeIndex = s.freeIndex := rfl
@[simp] theorem closePeriod_pending (s : State) : (closePeriod s).pending = s.pending := rfl
@[simp] theorem viewBeforeSums_ctl (s : State) : (viewBeforeSums s).ctl = s.ctl := rfl
@[simp] theorem viewBeforeSums_intake (s : State) : (viewBeforeSums s).intake = s.intake := rfl
@[simp] theorem viewBeforeSums_link (s : State) : (viewBeforeSums s).link = s.link := rfl
@[simp] theorem viewBeforeSums_ls (s : State) : (viewBeforeSums s).ls = s.ls := rfl
@[simp] theorem viewBeforeSums_demand (s : State) : (viewBeforeSums s).demand = s.demand := rfl
@[simp] theorem viewBeforeSums_shed (s : State) : (viewBeforeSums s).shed = s.shed := rfl
@[simp] theorem viewBeforeSums_cap (s : State) : (viewBeforeSums s).cap = s.cap := rfl
@[simp] theorem viewBeforeSums_port (s : State) : (viewBeforeSums s).port = s.port := rfl
@[simp] theorem viewBeforeSums_freeIndex (s : State) : (viewBeforeSums s).freeIndex = s.freeIndex := rfl
@[simp] theorem viewBeforeSums_pending (s : State) : (viewBeforeSums s).pending = s.pending := rfl
@[simp] theorem dropTest_ctl (s : State) : (dropTest s).ctl = s.ctl := by
  simp only [dropTest]; repeat' split
  all_goals simp
@[simp] theorem dropTest_intake (s : State) : (dropTest s).intake = s.intake := by
  simp only [dropTest]; repeat' split
  all_goals simp
@[simp] theorem dropTest_link (s : State) : (dropTest s).link = s.link := by
  simp only [dropTest]; repeat' split
  all_goals simp
@[simp] theorem dropTest_ls (s : State) : (dropTest s).ls = s.ls := by
  simp only [dropTest]; repeat' split
  all_goals simp
@[simp] theorem dropTest_demand (s : State) : (dropTest s).demand = s.demand := by
  simp only [dropTest]; repeat' split
  all_goals simp
@[simp] theorem dropTest_shed (s : State) : (dropTest s).shed = s.shed := by
  simp only [dropTest]; repeat' split
  all_goals simp
@[simp] theorem dropTest_cap (s : State) : (dropTest s).cap = s.cap := by
  simp only [dropTest]; repeat' split
  all_goals simp
@[simp] theorem dropTest_port (s : State) : (dropTest s).port = s.port := by
  simp only [dropTest]; repeat' split
  all_goals simp
@[simp] theorem dropTest_freeIndex (s : State) : (dropTest s).freeIndex = s.freeIndex := by
  simp only [dropTest]; repeat' split
  all_goals simp
@[simp] theorem dropTest_pending (s : State) : (dropTest s).pending = s.pending := by
  simp only [dropTest]; repeat' split
  all_goals simp
@[simp] theorem viewAtExpiry_ctl (s : State) : (viewAtExpiry s).ctl = s.ctl := by
  simp [viewAtExpiry]
@[simp] theorem viewAtExpiry_intake (s : State) : (viewAtExpiry s).intake = s.intake := by
  simp [viewAtExpiry]
@[simp] theorem viewAtExpiry_link (s : State) : (viewAtExpiry s).link = s.link := by
  simp [viewAtExpiry]
@[simp] theorem viewAtExpiry_ls (s : State) : (viewAtExpiry s).ls = s.ls := by
  simp [viewAtExpiry]
@[simp] theorem viewAtExpiry_demand (s : State) : (viewAtExpiry s).demand = s.demand := by
  simp [viewAtExpiry]
@[simp] theorem viewAtExpiry_shed (s : State) : (viewAtExpiry s).shed = s.shed := by
  simp [viewAtExpiry]
@[simp] theorem viewAtExpiry_cap (s : State) : (viewAtExpiry s).cap = s.cap := by
  simp [viewAtExpiry]
@[simp] theorem viewAtExpiry_port (s : State) : (viewAtExpiry s).port = s.port := by
  simp [viewAtExpiry]
@[simp] theorem viewAtExpiry_freeIndex (s : State) : (viewAtExpiry s).freeIndex = s.freeIndex := by
  simp [viewAtExpiry]
@[simp] theorem viewAtExpiry_pending (s : State) : (viewAtExpiry s).pending = s.pending := by
  simp [viewAtExpiry]
@[simp] theorem lsAbandon_ctl (s : State) : (lsAbandon s).ctl = s.ctl := by
  simp [lsAbandon]
@[simp] theorem lsAbandon_intake (s : State) : (lsAbandon s).intake = s.intake := by
  simp [lsAbandon]
@[simp] theorem lsAbandon_link (s : State) : (lsAbandon s).link = s.link := by
  simp [lsAbandon]
@[simp] theorem lsAbandon_view (s : State) : (lsAbandon s).view = s.view := by
  simp [lsAbandon]
@[simp] theorem lsAbandon_demand (s : State) : (lsAbandon s).demand = s.demand := by
  simp [lsAbandon]
@[simp] theorem lsAbandon_shed (s : State) : (lsAbandon s).shed = s.shed := by
  simp [lsAbandon]
@[simp] theorem lsAbandon_cap (s : State) : (lsAbandon s).cap = s.cap := by
  simp [lsAbandon]
@[simp] theorem lsAbandon_freeIndex (s : State) : (lsAbandon s).freeIndex = s.freeIndex := by
  simp [lsAbandon]
@[simp] theorem lsAbandon_pending (s : State) : (lsAbandon s).pending = s.pending := by
  simp [lsAbandon]
@[simp] theorem lsRamp_ctl (fresh : Bool) (s : State) : (lsRamp fresh s).ctl = s.ctl := by
  simp only [lsRamp]; repeat' split
  all_goals simp
@[simp] theorem lsRamp_intake (fresh : Bool) (s : State) : (lsRamp fresh s).intake = s.intake := by
  simp only [lsRamp]; repeat' split
  all_goals simp
@[simp] theorem lsRamp_link (fresh : Bool) (s : State) : (lsRamp fresh s).link = s.link := by
  simp only [lsRamp]; repeat' split
  all_goals simp
@[simp] theorem lsRamp_view (fresh : Bool) (s : State) : (lsRamp fresh s).view = s.view := by
  simp only [lsRamp]; repeat' split
  all_goals simp
@[simp] theorem lsRamp_demand (fresh : Bool) (s : State) : (lsRamp fresh s).demand = s.demand := by
  simp only [lsRamp]; repeat' split
  all_goals simp
@[simp] theorem lsRamp_shed (fresh : Bool) (s : State) : (lsRamp fresh s).shed = s.shed := by
  simp only [lsRamp]; repeat' split
  all_goals simp
@[simp] theorem lsRamp_cap (fresh : Bool) (s : State) : (lsRamp fresh s).cap = s.cap := by
  simp only [lsRamp]; repeat' split
  all_goals simp
@[simp] theorem lsRamp_port (fresh : Bool) (s : State) : (lsRamp fresh s).port = s.port := by
  simp only [lsRamp]; repeat' split
  all_goals simp
@[simp] theorem lsRamp_freeIndex (fresh : Bool) (s : State) : (lsRamp fresh s).freeIndex = s.freeIndex := by
  simp only [lsRamp]; repeat' split
  all_goals simp
@[simp] theorem lsRamp_pending (fresh : Bool) (s : State) : (lsRamp fresh s).pending = s.pending := by
  simp only [lsRamp]; repeat' split
  all_goals simp
@[simp] theorem lsBias_ctl (s : State) : (lsBias s).ctl = s.ctl := by
  simp only [lsBias]; repeat' split
  all_goals simp
@[simp] theorem lsBias_intake (s : State) : (lsBias s).intake = s.intake := by
  simp only [lsBias]; repeat' split
  all_goals simp
@[simp] theorem lsBias_link (s : State) : (lsBias s).link = s.link := by
  simp only [lsBias]; repeat' split
  all_goals simp
@[simp] theorem lsBias_view (s : State) : (lsBias s).view = s.view := by
  simp only [lsBias]; repeat' split
  all_goals simp
@[simp] theorem lsBias_demand (s : State) : (lsBias s).demand = s.demand := by
  simp only [lsBias]; repeat' split
  all_goals simp
@[simp] theorem lsBias_shed (s : State) : (lsBias s).shed = s.shed := by
  simp only [lsBias]; repeat' split
  all_goals simp
@[simp] theorem lsBias_cap (s : State) : (lsBias s).cap = s.cap := by
  simp only [lsBias]; repeat' split
  all_goals simp
@[simp] theorem lsBias_port (s : State) : (lsBias s).port = s.port := by
  simp only [lsBias]; repeat' split
  all_goals simp
@[simp] theorem lsBias_freeIndex (s : State) : (lsBias s).freeIndex = s.freeIndex := by
  simp only [lsBias]; repeat' split
  all_goals simp
@[simp] theorem lsBias_pending (s : State) : (lsBias s).pending = s.pending := by
  simp only [lsBias]; repeat' split
  all_goals simp
@[simp] theorem lsComplete_ctl (s : State) : (lsComplete s).ctl = s.ctl := by
  simp only [lsComplete]; repeat' split
  all_goals simp
@[simp] theorem lsComplete_intake (s : State) : (lsComplete s).intake = s.intake := by
  simp only [lsComplete]; repeat' split
  all_goals simp
@[simp] theorem lsComplete_link (s : State) : (lsComplete s).link = s.link := by
  simp only [lsComplete]; repeat' split
  all_goals simp
@[simp] theorem lsComplete_view (s : State) : (lsComplete s).view = s.view := by
  simp only [lsComplete]; repeat' split
  all_goals simp
@[simp] theorem lsComplete_demand (s : State) : (lsComplete s).demand = s.demand := by
  simp only [lsComplete]; repeat' split
  all_goals simp
@[simp] theorem lsComplete_shed (s : State) : (lsComplete s).shed = s.shed := by
  simp only [lsComplete]; repeat' split
  all_goals simp
@[simp] theorem lsComplete_cap (s : State) : (lsComplete s).cap = s.cap := by
  simp only [lsComplete]; repeat' split
  all_goals simp
@[simp] theorem lsComplete_freeIndex (s : State) : (lsComplete s).freeIndex = s.freeIndex := by
  simp only [lsComplete]; repeat' split
  all_goals simp
@[simp] theorem lsComplete_pending (s : State) : (lsComplete s).pending = s.pending := by
  simp only [lsComplete]; repeat' split
  all_goals simp
@[simp] theorem lsTrip_ctl (s : State) : (lsTrip s).ctl = s.ctl := by
  simp only [lsTrip]; repeat' split
  all_goals simp
@[simp] theorem lsTrip_intake (s : State) : (lsTrip s).intake = s.intake := by
  simp only [lsTrip]; repeat' split
  all_goals simp
@[simp] theorem lsTrip_link (s : State) : (lsTrip s).link = s.link := by
  simp only [lsTrip]; repeat' split
  all_goals simp
@[simp] theorem lsTrip_view (s : State) : (lsTrip s).view = s.view := by
  simp only [lsTrip]; repeat' split
  all_goals simp
@[simp] theorem lsTrip_demand (s : State) : (lsTrip s).demand = s.demand := by
  simp only [lsTrip]; repeat' split
  all_goals simp
@[simp] theorem lsTrip_shed (s : State) : (lsTrip s).shed = s.shed := by
  simp only [lsTrip]; repeat' split
  all_goals simp
@[simp] theorem lsTrip_cap (s : State) : (lsTrip s).cap = s.cap := by
  simp only [lsTrip]; repeat' split
  all_goals simp
@[simp] theorem lsTrip_port (s : State) : (lsTrip s).port = s.port := by
  simp only [lsTrip]; repeat' split
  all_goals simp
@[simp] theorem lsTrip_freeIndex (s : State) : (lsTrip s).freeIndex = s.freeIndex := by
  simp only [lsTrip]; repeat' split
  all_goals simp
@[simp] theorem lsTrip_pending (s : State) : (lsTrip s).pending = s.pending := by
  simp only [lsTrip]; repeat' split
  all_goals simp
@[simp] theorem loadShareWork_ctl (fresh : Bool) (s : State) : (loadShareWork fresh s).ctl = s.ctl := by
  simp only [loadShareWork]; repeat' split
  all_goals simp
@[simp] theorem loadShareWork_intake (fresh : Bool) (s : State) : (loadShareWork fresh s).intake = s.intake := by
  simp only [loadShareWork]; repeat' split
  all_goals simp
@[simp] theorem loadShareWork_link (fresh : Bool) (s : State) : (loadShareWork fresh s).link = s.link := by
  simp only [loadShareWork]; repeat' split
  all_goals simp
@[simp] theorem loadShareWork_view (fresh : Bool) (s : State) : (loadShareWork fresh s).view = s.view := by
  simp only [loadShareWork]; repeat' split
  all_goals simp
@[simp] theorem loadShareWork_demand (fresh : Bool) (s : State) : (loadShareWork fresh s).demand = s.demand := by
  simp only [loadShareWork]; repeat' split
  all_goals simp
@[simp] theorem loadShareWork_shed (fresh : Bool) (s : State) : (loadShareWork fresh s).shed = s.shed := by
  simp only [loadShareWork]; repeat' split
  all_goals simp
@[simp] theorem loadShareWork_cap (fresh : Bool) (s : State) : (loadShareWork fresh s).cap = s.cap := by
  simp only [loadShareWork]; repeat' split
  all_goals simp
@[simp] theorem loadShareWork_freeIndex (fresh : Bool) (s : State) : (loadShareWork fresh s).freeIndex = s.freeIndex := by
  simp only [loadShareWork]; repeat' split
  all_goals simp
@[simp] theorem loadShareWork_pending (fresh : Bool) (s : State) : (loadShareWork fresh s).pending = s.pending := by
  simp only [loadShareWork]; repeat' split
  all_goals simp
@[simp] theorem startRequest_ctl (s : State) : (startRequest s).ctl = s.ctl := by
  simp only [startRequest]; repeat' split
  all_goals simp
@[simp] theorem startRequest_intake (s : State) : (startRequest s).intake = s.intake := by
  simp only [startRequest]; repeat' split
  all_goals simp
@[simp] theorem startRequest_link (s : State) : (startRequest s).link = s.link := by
  simp only [startRequest]; repeat' split
  all_goals simp
@[simp] theorem startRequest_view (s : State) : (startRequest s).view = s.view := by
  simp only [startRequest]; repeat' split
  all_goals simp
@[simp] theorem startRequest_shed (s : State) : (startRequest s).shed = s.shed := by
  simp only [startRequest]; repeat' split
  all_goals simp
@[simp] theorem startRequest_cap (s : State) : (startRequest s).cap = s.cap := by
  simp only [startRequest]; repeat' split
  all_goals simp
@[simp] theorem startRequest_freeIndex (s : State) : (startRequest s).freeIndex = s.freeIndex := by
  simp only [startRequest]; repeat' split
  all_goals simp
@[simp] theorem startRequest_pending (s : State) : (startRequest s).pending = s.pending := by
  simp only [startRequest]; repeat' split
  all_goals simp
@[simp] theorem startDecision_ctl (s : State) : (startDecision s).ctl = s.ctl := by
  simp only [startDecision]; repeat' split
  all_goals simp
@[simp] theorem startDecision_intake (s : State) : (startDecision s).intake = s.intake := by
  simp only [startDecision]; repeat' split
  all_goals simp
@[simp] theorem startDecision_link (s : State) : (startDecision s).link = s.link := by
  simp only [startDecision]; repeat' split
  all_goals simp
@[simp] theorem startDecision_view (s : State) : (startDecision s).view = s.view := by
  simp only [startDecision]; repeat' split
  all_goals simp
@[simp] theorem startDecision_shed (s : State) : (startDecision s).shed = s.shed := by
  simp only [startDecision]; repeat' split
  all_goals simp
@[simp] theorem startDecision_cap (s : State) : (startDecision s).cap = s.cap := by
  simp only [startDecision]; repeat' split
  all_goals simp
@[simp] theorem startDecision_freeIndex (s : State) : (startDecision s).freeIndex = s.freeIndex := by
  simp only [startDecision]; repeat' split
  all_goals simp
@[simp] theorem startDecision_pending (s : State) : (startDecision s).pending = s.pending := by
  simp only [startDecision]; repeat' split
  all_goals simp
@[simp] theorem failAttempt_ctl (s : State) : (failAttempt s).ctl = s.ctl := by
  simp only [failAttempt]; repeat' split
  all_goals simp
@[simp] theorem failAttempt_intake (s : State) : (failAttempt s).intake = s.intake := by
  simp only [failAttempt]; repeat' split
  all_goals simp
@[simp] theorem failAttempt_link (s : State) : (failAttempt s).link = s.link := by
  simp only [failAttempt]; repeat' split
  all_goals simp
@[simp] theorem failAttempt_view (s : State) : (failAttempt s).view = s.view := by
  simp only [failAttempt]; repeat' split
  all_goals simp
@[simp] theorem failAttempt_shed (s : State) : (failAttempt s).shed = s.shed := by
  simp only [failAttempt]; repeat' split
  all_goals simp
@[simp] theorem failAttempt_cap (s : State) : (failAttempt s).cap = s.cap := by
  simp only [failAttempt]; repeat' split
  all_goals simp
@[simp] theorem failAttempt_freeIndex (s : State) : (failAttempt s).freeIndex = s.freeIndex := by
  simp only [failAttempt]; repeat' split
  all_goals simp
@[simp] theorem failAttempt_pending (s : State) : (failAttempt s).pending = s.pending := by
  simp only [failAttempt]; repeat' split
  all_goals simp
@[simp] theorem attemptWork_ctl (s : State) : (attemptWork s).ctl = s.ctl := by
  simp only [attemptWork]; repeat' split
  all_goals simp
@[simp] theorem attemptWork_intake (s : State) : (attemptWork s).intake = s.intake := by
  simp only [attemptWork]; repeat' split
  all_goals simp
@[simp] theorem attemptWork_link (s : State) : (attemptWork s).link = s.link := by
  simp only [attemptWork]; repeat' split
  all_goals simp
@[simp] theorem attemptWork_view (s : State) : (attemptWork s).view = s.view := by
  simp only [attemptWork]; repeat' split
  all_goals simp
@[simp] theorem attemptWork_shed (s : State) : (attemptWork s).shed = s.shed := by
  simp only [attemptWork]; repeat' split
  all_goals simp
@[simp] theorem attemptWork_cap (s : State) : (attemptWork s).cap = s.cap := by
  simp only [attemptWork]; repeat' split
  all_goals simp
@[simp] theorem attemptWork_freeIndex (s : State) : (attemptWork s).freeIndex = s.freeIndex := by
  simp only [attemptWork]; repeat' split
  all_goals simp
@[simp] theorem attemptWork_pending (s : State) : (attemptWork s).pending = s.pending := by
  simp only [attemptWork]; repeat' split
  all_goals simp
@[simp] theorem rampOutRequest_ctl (s : State) : (rampOutRequest s).ctl = s.ctl := by
  simp only [rampOutRequest]; repeat' split
  all_goals simp
@[simp] theorem rampOutRequest_intake (s : State) : (rampOutRequest s).intake = s.intake := by
  simp only [rampOutRequest]; repeat' split
  all_goals simp
@[simp] theorem rampOutRequest_link (s : State) : (rampOutRequest s).link = s.link := by
  simp only [rampOutRequest]; repeat' split
  all_goals simp
@[simp] theorem rampOutRequest_view (s : State) : (rampOutRequest s).view = s.view := by
  simp only [rampOutRequest]; repeat' split
  all_goals simp
@[simp] theorem rampOutRequest_demand (s : State) : (rampOutRequest s).demand = s.demand := by
  simp only [rampOutRequest]; repeat' split
  all_goals simp
@[simp] theorem rampOutRequest_shed (s : State) : (rampOutRequest s).shed = s.shed := by
  simp only [rampOutRequest]; repeat' split
  all_goals simp
@[simp] theorem rampOutRequest_cap (s : State) : (rampOutRequest s).cap = s.cap := by
  simp only [rampOutRequest]; repeat' split
  all_goals simp
@[simp] theorem rampOutRequest_freeIndex (s : State) : (rampOutRequest s).freeIndex = s.freeIndex := by
  simp only [rampOutRequest]; repeat' split
  all_goals simp
@[simp] theorem rampOutRequest_pending (s : State) : (rampOutRequest s).pending = s.pending := by
  simp only [rampOutRequest]; repeat' split
  all_goals simp
@[simp] theorem stopWork_ctl (s : State) : (stopWork s).ctl = s.ctl := by
  simp only [stopWork]; repeat' split
  all_goals simp
@[simp] theorem stopWork_intake (s : State) : (stopWork s).intake = s.intake := by
  simp only [stopWork]; repeat' split
  all_goals simp
@[simp] theorem stopWork_link (s : State) : (stopWork s).link = s.link := by
  simp only [stopWork]; repeat' split
  all_goals simp
@[simp] theorem stopWork_view (s : State) : (stopWork s).view = s.view := by
  simp only [stopWork]; repeat' split
  all_goals simp
@[simp] theorem stopWork_shed (s : State) : (stopWork s).shed = s.shed := by
  simp only [stopWork]; repeat' split
  all_goals simp
@[simp] theorem stopWork_cap (s : State) : (stopWork s).cap = s.cap := by
  simp only [stopWork]; repeat' split
  all_goals simp
@[simp] theorem stopWork_freeIndex (s : State) : (stopWork s).freeIndex = s.freeIndex := by
  simp only [stopWork]; repeat' split
  all_goals simp
@[simp] theorem stopWork_pending (s : State) : (stopWork s).pending = s.pending := by
  simp only [stopWork]; repeat' split
  all_goals simp
@[simp] theorem beforeStop_ctl (s : State) : (beforeStop s).ctl = s.ctl := by
  simp only [beforeStop]; repeat' split
  all_goals simp
@[simp] theorem beforeStop_intake (s : State) : (beforeStop s).intake = s.intake := by
  simp only [beforeStop]; repeat' split
  all_goals simp
@[simp] theorem beforeStop_link (s : State) : (beforeStop s).link = s.link := by
  simp only [beforeStop]; repeat' split
  all_goals simp
@[simp] theorem beforeStop_view (s : State) : (beforeStop s).view = s.view := by
  simp only [beforeStop]; repeat' split
  all_goals simp
@[simp] theorem beforeStop_shed (s : State) : (beforeStop s).shed = s.shed := by
  simp only [beforeStop]; repeat' split
  all_goals simp
@[simp] theorem beforeStop_cap (s : State) : (beforeStop s).cap = s.cap := by
  simp only [beforeStop]; repeat' split
  all_goals simp
@[simp] theorem beforeStop_freeIndex (s : State) : (beforeStop s).freeIndex = s.freeIndex := by
  simp only [beforeStop]; repeat' split
  all_goals simp
@[simp] theorem beforeStop_pending (s : State) : (beforeStop s).pending = s.pending := by
  simp only [beforeStop]; repeat' split
  all_goals simp
@[simp] theorem rememberLoads_ctl (s : State) : (rememberLoads s).ctl = s.ctl := by
  simp only [rememberLoads]; repeat' split
  all_goals simp
@[simp] theorem rememberLoads_intake (s : State) : (rememberLoads s).intake = s.intake := by
  simp only [rememberLoads]; repeat' split
  all_goals simp
@[simp] theorem rememberLoads_link (s : State) : (rememberLoads s).link = s.link := by
  simp only [rememberLoads]; repeat' split
  all_goals simp
@[simp] theorem rememberLoads_view (s : State) : (rememberLoads s).view = s.view := by
  simp only [rememberLoads]; repeat' split
  all_goals simp
@[simp] theorem rememberLoads_ls (s : State) : (rememberLoads s).ls = s.ls := by
  simp only [rememberLoads]; repeat' split
  all_goals simp
@[simp] theorem rememberLoads_demand (s : State) : (rememberLoads s).demand = s.demand := by
  simp only [rememberLoads]; repeat' split
  all_goals simp
@[simp] theorem rememberLoads_cap (s : State) : (rememberLoads s).cap = s.cap := by
  simp only [rememberLoads]; repeat' split
  all_goals simp
@[simp] theorem rememberLoads_port (s : State) : (rememberLoads s).port = s.port := by
  simp only [rememberLoads]; repeat' split
  all_goals simp
@[simp] theorem rememberLoads_freeIndex (s : State) : (rememberLoads s).freeIndex = s.freeIndex := by
  simp only [rememberLoads]; repeat' split
  all_goals simp
@[simp] theorem rememberLoads_pending (s : State) : (rememberLoads s).pending = s.pending := by
  simp only [rememberLoads]; repeat' split
  all_goals simp
@[simp] theorem countSettle_ctl (s : State) : (countSettle s).ctl = s.ctl := rfl
@[simp] theorem countSettle_intake (s : State) : (countSettle s).intake = s.intake := rfl
@[simp] theorem countSettle_link (s : State) : (countSettle s).link = s.link := rfl
@[simp] theorem countSettle_view (s : State) : (countSettle s).view = s.view := rfl
@[simp] theorem countSettle_ls (s : State) : (countSettle s).ls = s.ls := rfl
@[simp] theorem countSettle_demand (s : State) : (countSettle s).demand = s.demand := rfl
@[simp] theorem countSettle_cap (s : State) : (countSettle s).cap = s.cap := rfl
@[simp] theorem countSettle_port (s : State) : (countSettle s).port = s.port := rfl
@[simp] theorem countSettle_freeIndex (s : State) : (countSettle s).freeIndex = s.freeIndex := rfl
@[simp] theorem countSettle_pending (s : State) : (countSettle s).pending = s.pending := rfl
@[simp] theorem capacityWork_ctl (tieChange : Bool) (s : State) : (capacityWork tieChange s).ctl = s.ctl := by
  simp only [capacityWork]; repeat' split
  all_goals simp
@[simp] theorem capacityWork_intake (tieChange : Bool) (s : State) : (capacityWork tieChange s).intake = s.intake := by
  simp only [capacityWork]; repeat' split
  all_goals simp
@[simp] theorem capacityWork_view (tieChange : Bool) (s : State) : (capacityWork tieChange s).view = s.view := by
  simp only [capacityWork]; repeat' split
  all_goals simp
@[simp] theorem capacityWork_demand (tieChange : Bool) (s : State) : (capacityWork tieChange s).demand = s.demand := by
  simp only [capacityWork]; repeat' split
  all_goals simp
@[simp] theorem capacityWork_freeIndex (tieChange : Bool) (s : State) : (capacityWork tieChange s).freeIndex = s.freeIndex := by
  simp only [capacityWork]; repeat' split
  all_goals simp
@[simp] theorem capacityWork_pending (tieChange : Bool) (s : State) : (capacityWork tieChange s).pending = s.pending := by
  simp only [capacityWork]; repeat' split
  all_goals simp
@[simp] theorem ladderWork_ctl (s : State) : (ladderWork s).ctl = s.ctl := by
  simp only [ladderWork]; repeat' split
  all_goals simp
@[simp] theorem ladderWork_intake (s : State) : (ladderWork s).intake = s.intake := by
  simp only [ladderWork]; repeat' split
  all_goals simp
@[simp] theorem ladderWork_view (s : State) : (ladderWork s).view = s.view := by
  simp only [ladderWork]; repeat' split
  all_goals simp
@[simp] theorem ladderWork_demand (s : State) : (ladderWork s).demand = s.demand := by
  simp only [ladderWork]; repeat' split
  all_goals simp
@[simp] theorem ladderWork_freeIndex (s : State) : (ladderWork s).freeIndex = s.freeIndex := by
  simp only [ladderWork]; repeat' split
  all_goals simp
@[simp] theorem ladderWork_pending (s : State) : (ladderWork s).pending = s.pending := by
  simp only [ladderWork]; repeat' split
  all_goals simp
@[simp] theorem restoreWork_ctl (s : State) : (restoreWork s).ctl = s.ctl := by
  simp only [restoreWork]; repeat' split
  all_goals simp
@[simp] theorem restoreWork_intake (s : State) : (restoreWork s).intake = s.intake := by
  simp only [restoreWork]; repeat' split
  all_goals simp
@[simp] theorem restoreWork_link (s : State) : (restoreWork s).link = s.link := by
  simp only [restoreWork]; repeat' split
  all_goals simp
@[simp] theorem restoreWork_view (s : State) : (restoreWork s).view = s.view := by
  simp only [restoreWork]; repeat' split
  all_goals simp
@[simp] theorem restoreWork_ls (s : State) : (restoreWork s).ls = s.ls := by
  simp only [restoreWork]; repeat' split
  all_goals simp
@[simp] theorem restoreWork_demand (s : State) : (restoreWork s).demand = s.demand := by
  simp only [restoreWork]; repeat' split
  all_goals simp
@[simp] theorem restoreWork_cap (s : State) : (restoreWork s).cap = s.cap := by
  simp only [restoreWork]; repeat' split
  all_goals simp
@[simp] theorem restoreWork_freeIndex (s : State) : (restoreWork s).freeIndex = s.freeIndex := by
  simp only [restoreWork]; repeat' split
  all_goals simp
@[simp] theorem restoreWork_pending (s : State) : (restoreWork s).pending = s.pending := by
  simp only [restoreWork]; repeat' split
  all_goals simp
@[simp] theorem linkWork_ctl (s : State) : (linkWork s).ctl = s.ctl := by
  simp only [linkWork]; repeat' split
  all_goals simp
@[simp] theorem linkWork_intake (s : State) : (linkWork s).intake = s.intake := by
  simp only [linkWork]; repeat' split
  all_goals simp
@[simp] theorem linkWork_view (s : State) : (linkWork s).view = s.view := by
  simp only [linkWork]; repeat' split
  all_goals simp
@[simp] theorem linkWork_ls (s : State) : (linkWork s).ls = s.ls := by
  simp only [linkWork]; repeat' split
  all_goals simp
@[simp] theorem linkWork_demand (s : State) : (linkWork s).demand = s.demand := by
  simp only [linkWork]; repeat' split
  all_goals simp
@[simp] theorem linkWork_shed (s : State) : (linkWork s).shed = s.shed := by
  simp only [linkWork]; repeat' split
  all_goals simp
@[simp] theorem linkWork_cap (s : State) : (linkWork s).cap = s.cap := by
  simp only [linkWork]; repeat' split
  all_goals simp
@[simp] theorem linkWork_port (s : State) : (linkWork s).port = s.port := by
  simp only [linkWork]; repeat' split
  all_goals simp
@[simp] theorem linkWork_freeIndex (s : State) : (linkWork s).freeIndex = s.freeIndex := by
  simp only [linkWork]; repeat' split
  all_goals simp
@[simp] theorem linkWork_pending (s : State) : (linkWork s).pending = s.pending := by
  simp only [linkWork]; repeat' split
  all_goals simp
@[simp] theorem atTestPoint_link (s : State) : (atTestPoint s).link = s.link := by
  simp [atTestPoint]
@[simp] theorem atTestPoint_ls (s : State) : (atTestPoint s).ls = s.ls := by
  simp [atTestPoint]
@[simp] theorem atTestPoint_demand (s : State) : (atTestPoint s).demand = s.demand := by
  simp [atTestPoint]
@[simp] theorem atTestPoint_shed (s : State) : (atTestPoint s).shed = s.shed := by
  simp [atTestPoint]
@[simp] theorem atTestPoint_port (s : State) : (atTestPoint s).port = s.port := by
  simp [atTestPoint]
@[simp] theorem atTestPoint_freeIndex (s : State) : (atTestPoint s).freeIndex = s.freeIndex := by
  simp [atTestPoint]
@[simp] theorem atTestPoint_pending (s : State) : (atTestPoint s).pending = s.pending := by
  simp [atTestPoint]
@[simp] theorem loseFrame_ctl (fl : Flight) (s : State) : (loseFrame fl s).ctl = s.ctl := rfl
@[simp] theorem loseFrame_intake (fl : Flight) (s : State) : (loseFrame fl s).intake = s.intake := rfl
@[simp] theorem loseFrame_view (fl : Flight) (s : State) : (loseFrame fl s).view = s.view := rfl
@[simp] theorem loseFrame_ls (fl : Flight) (s : State) : (loseFrame fl s).ls = s.ls := rfl
@[simp] theorem loseFrame_demand (fl : Flight) (s : State) : (loseFrame fl s).demand = s.demand := rfl
@[simp] theorem loseFrame_shed (fl : Flight) (s : State) : (loseFrame fl s).shed = s.shed := rfl
@[simp] theorem loseFrame_cap (fl : Flight) (s : State) : (loseFrame fl s).cap = s.cap := rfl
@[simp] theorem loseFrame_port (fl : Flight) (s : State) : (loseFrame fl s).port = s.port := rfl
@[simp] theorem loseFrame_freeIndex (fl : Flight) (s : State) : (loseFrame fl s).freeIndex = s.freeIndex := rfl
@[simp] theorem loseFrame_pending (fl : Flight) (s : State) : (loseFrame fl s).pending = s.pending := rfl
@[simp] theorem errFrame_intake (fl : Flight) (s : State) : (errFrame fl s).intake = s.intake := by
  simp only [errFrame]; repeat' split
  all_goals simp
@[simp] theorem errFrame_view (fl : Flight) (s : State) : (errFrame fl s).view = s.view := by
  simp only [errFrame]; repeat' split
  all_goals simp
@[simp] theorem errFrame_cap (fl : Flight) (s : State) : (errFrame fl s).cap = s.cap := by
  simp only [errFrame]; repeat' split
  all_goals simp
@[simp] theorem errFrame_freeIndex (fl : Flight) (s : State) : (errFrame fl s).freeIndex = s.freeIndex := by
  simp only [errFrame]; repeat' split
  all_goals simp
@[simp] theorem errFrame_pending (fl : Flight) (s : State) : (errFrame fl s).pending = s.pending := by
  simp only [errFrame]; repeat' split
  all_goals simp

/-! A start-bit error differs from another transmit error in the line monitor alone. -/
@[simp] theorem errStartBit_ctl (fl : Flight) (s : State) : (errStartBit fl s).ctl = (errFrame fl s).ctl := rfl
@[simp] theorem errStartBit_intake (fl : Flight) (s : State) : (errStartBit fl s).intake = (errFrame fl s).intake := rfl
@[simp] theorem errStartBit_view (fl : Flight) (s : State) : (errStartBit fl s).view = (errFrame fl s).view := rfl
@[simp] theorem errStartBit_ls (fl : Flight) (s : State) : (errStartBit fl s).ls = (errFrame fl s).ls := rfl
@[simp] theorem errStartBit_demand (fl : Flight) (s : State) : (errStartBit fl s).demand = (errFrame fl s).demand := rfl
@[simp] theorem errStartBit_shed (fl : Flight) (s : State) : (errStartBit fl s).shed = (errFrame fl s).shed := rfl
@[simp] theorem errStartBit_cap (fl : Flight) (s : State) : (errStartBit fl s).cap = (errFrame fl s).cap := rfl
@[simp] theorem errStartBit_port (fl : Flight) (s : State) : (errStartBit fl s).port = (errFrame fl s).port := rfl
@[simp] theorem errStartBit_freeIndex (fl : Flight) (s : State) : (errStartBit fl s).freeIndex = (errFrame fl s).freeIndex := rfl
@[simp] theorem errStartBit_pending (fl : Flight) (s : State) : (errStartBit fl s).pending = (errFrame fl s).pending := rfl
@[simp] theorem errStartBit_link (fl : Flight) (s : State) :
    (errStartBit fl s).link = (errFrame fl s).link.neverBusy := rfl
@[simp] theorem sendFrame_ctl (fl : Flight) (s : State) : (sendFrame fl s).ctl = s.ctl := rfl
@[simp] theorem sendFrame_intake (fl : Flight) (s : State) : (sendFrame fl s).intake = s.intake := rfl
@[simp] theorem sendFrame_view (fl : Flight) (s : State) : (sendFrame fl s).view = s.view := rfl
@[simp] theorem sendFrame_ls (fl : Flight) (s : State) : (sendFrame fl s).ls = s.ls := rfl
@[simp] theorem sendFrame_demand (fl : Flight) (s : State) : (sendFrame fl s).demand = s.demand := rfl
@[simp] theorem sendFrame_shed (fl : Flight) (s : State) : (sendFrame fl s).shed = s.shed := rfl
@[simp] theorem sendFrame_cap (fl : Flight) (s : State) : (sendFrame fl s).cap = s.cap := rfl
@[simp] theorem sendFrame_port (fl : Flight) (s : State) : (sendFrame fl s).port = s.port := rfl
@[simp] theorem sendFrame_freeIndex (fl : Flight) (s : State) : (sendFrame fl s).freeIndex = s.freeIndex := rfl
@[simp] theorem sendFrame_pending (fl : Flight) (s : State) : (sendFrame fl s).pending = s.pending := rfl
@[simp] theorem endFlight_intake (fl : Flight) (line : List Bool) (s : State) : (endFlight fl line s).intake = s.intake := by
  simp only [endFlight]; repeat' split
  all_goals simp
@[simp] theorem endFlight_view (fl : Flight) (line : List Bool) (s : State) : (endFlight fl line s).view = s.view := by
  simp only [endFlight]; repeat' split
  all_goals simp
@[simp] theorem endFlight_cap (fl : Flight) (line : List Bool) (s : State) : (endFlight fl line s).cap = s.cap := by
  simp only [endFlight]; repeat' split
  all_goals simp
@[simp] theorem endFlight_freeIndex (fl : Flight) (line : List Bool) (s : State) : (endFlight fl line s).freeIndex = s.freeIndex := by
  simp only [endFlight]; repeat' split
  all_goals simp
@[simp] theorem endFlight_pending (fl : Flight) (line : List Bool) (s : State) : (endFlight fl line s).pending = s.pending := by
  simp only [endFlight]; repeat' split
  all_goals simp
@[simp] theorem enterPeer_ctl (e : PeerEntry) (s : State) : (enterPeer e s).ctl = s.ctl := rfl
@[simp] theorem enterPeer_intake (e : PeerEntry) (s : State) : (enterPeer e s).intake = s.intake := rfl
@[simp] theorem enterPeer_link (e : PeerEntry) (s : State) : (enterPeer e s).link = s.link := rfl
@[simp] theorem enterPeer_ls (e : PeerEntry) (s : State) : (enterPeer e s).ls = s.ls := rfl
@[simp] theorem enterPeer_demand (e : PeerEntry) (s : State) : (enterPeer e s).demand = s.demand := rfl
@[simp] theorem enterPeer_shed (e : PeerEntry) (s : State) : (enterPeer e s).shed = s.shed := rfl
@[simp] theorem enterPeer_cap (e : PeerEntry) (s : State) : (enterPeer e s).cap = s.cap := rfl
@[simp] theorem enterPeer_port (e : PeerEntry) (s : State) : (enterPeer e s).port = s.port := rfl
@[simp] theorem enterPeer_freeIndex (e : PeerEntry) (s : State) : (enterPeer e s).freeIndex = s.freeIndex := rfl
@[simp] theorem enterPeer_pending (e : PeerEntry) (s : State) : (enterPeer e s).pending = s.pending := rfl
@[simp] theorem deriveIf_ctl (c : Bool) (s : State) : (deriveIf c s).ctl = s.ctl := by
  simp only [deriveIf]; repeat' split
  all_goals simp
@[simp] theorem deriveIf_intake (c : Bool) (s : State) : (deriveIf c s).intake = s.intake := by
  simp only [deriveIf]; repeat' split
  all_goals simp
@[simp] theorem deriveIf_demand (c : Bool) (s : State) : (deriveIf c s).demand = s.demand := by
  simp only [deriveIf]; repeat' split
  all_goals simp
@[simp] theorem deriveIf_freeIndex (c : Bool) (s : State) : (deriveIf c s).freeIndex = s.freeIndex := by
  simp only [deriveIf]; repeat' split
  all_goals simp
@[simp] theorem deriveIf_pending (c : Bool) (s : State) : (deriveIf c s).pending = s.pending := by
  simp only [deriveIf]; repeat' split
  all_goals simp
@[simp] theorem arriveIncompatible_ctl (f : Frame) (s : State) : (arriveIncompatible f s).ctl = s.ctl := by
  simp [arriveIncompatible]
@[simp] theorem arriveIncompatible_intake (f : Frame) (s : State) : (arriveIncompatible f s).intake = s.intake := by
  simp [arriveIncompatible]
@[simp] theorem arriveIncompatible_demand (f : Frame) (s : State) : (arriveIncompatible f s).demand = s.demand := by
  simp [arriveIncompatible]
@[simp] theorem arriveIncompatible_freeIndex (f : Frame) (s : State) : (arriveIncompatible f s).freeIndex = s.freeIndex := by
  simp [arriveIncompatible]
@[simp] theorem arriveIncompatible_pending (f : Frame) (s : State) : (arriveIncompatible f s).pending = s.pending := by
  simp [arriveIncompatible]
@[simp] theorem arriveGen_ctl (f : Frame) (b : GenBody) (s : State) : (arriveGen f b s).ctl = s.ctl := by
  simp [arriveGen]
@[simp] theorem arriveGen_intake (f : Frame) (b : GenBody) (s : State) : (arriveGen f b s).intake = s.intake := by
  simp [arriveGen]
@[simp] theorem arriveGen_demand (f : Frame) (b : GenBody) (s : State) : (arriveGen f b s).demand = s.demand := by
  simp [arriveGen]
@[simp] theorem arriveGen_freeIndex (f : Frame) (b : GenBody) (s : State) : (arriveGen f b s).freeIndex = s.freeIndex := by
  simp [arriveGen]
@[simp] theorem arriveGen_pending (f : Frame) (b : GenBody) (s : State) : (arriveGen f b s).pending = s.pending := by
  simp [arriveGen]
@[simp] theorem arriveFeed_ctl (f : Frame) (b : FeedBody) (s : State) : (arriveFeed f b s).ctl = s.ctl := by
  simp [arriveFeed]
@[simp] theorem arriveFeed_intake (f : Frame) (b : FeedBody) (s : State) : (arriveFeed f b s).intake = s.intake := by
  simp [arriveFeed]
@[simp] theorem arriveFeed_demand (f : Frame) (b : FeedBody) (s : State) : (arriveFeed f b s).demand = s.demand := by
  simp [arriveFeed]
@[simp] theorem arriveFeed_freeIndex (f : Frame) (b : FeedBody) (s : State) : (arriveFeed f b s).freeIndex = s.freeIndex := by
  simp [arriveFeed]
@[simp] theorem arriveFeed_pending (f : Frame) (b : FeedBody) (s : State) : (arriveFeed f b s).pending = s.pending := by
  simp [arriveFeed]
@[simp] theorem tripView_ctl (f : Frame) (r p : Int) (s : State) : (tripView f r p s).ctl = s.ctl := rfl
@[simp] theorem tripView_intake (f : Frame) (r p : Int) (s : State) : (tripView f r p s).intake = s.intake := rfl
@[simp] theorem tripView_link (f : Frame) (r p : Int) (s : State) : (tripView f r p s).link = s.link := rfl
@[simp] theorem tripView_ls (f : Frame) (r p : Int) (s : State) : (tripView f r p s).ls = s.ls := rfl
@[simp] theorem tripView_demand (f : Frame) (r p : Int) (s : State) : (tripView f r p s).demand = s.demand := rfl
@[simp] theorem tripView_shed (f : Frame) (r p : Int) (s : State) : (tripView f r p s).shed = s.shed := rfl
@[simp] theorem tripView_cap (f : Frame) (r p : Int) (s : State) : (tripView f r p s).cap = s.cap := rfl
@[simp] theorem tripView_port (f : Frame) (r p : Int) (s : State) : (tripView f r p s).port = s.port := rfl
@[simp] theorem tripView_freeIndex (f : Frame) (r p : Int) (s : State) : (tripView f r p s).freeIndex = s.freeIndex := rfl
@[simp] theorem tripView_pending (f : Frame) (r p : Int) (s : State) : (tripView f r p s).pending = s.pending := rfl
@[simp] theorem tripSums_ctl (f : Frame) (r p : Int) (s : State) : (tripSums f r p s).ctl = s.ctl := by
  simp [tripSums]
@[simp] theorem tripSums_intake (f : Frame) (r p : Int) (s : State) : (tripSums f r p s).intake = s.intake := by
  simp [tripSums]
@[simp] theorem tripSums_demand (f : Frame) (r p : Int) (s : State) : (tripSums f r p s).demand = s.demand := by
  simp [tripSums]
@[simp] theorem tripSums_freeIndex (f : Frame) (r p : Int) (s : State) : (tripSums f r p s).freeIndex = s.freeIndex := by
  simp [tripSums]
@[simp] theorem tripSums_pending (f : Frame) (r p : Int) (s : State) : (tripSums f r p s).pending = s.pending := by
  simp [tripSums]
@[simp] theorem arriveTrip_ctl (f : Frame) (r p : Int) (b : Bool) (s : State) : (arriveTrip f r p b s).ctl = s.ctl := by
  simp only [arriveTrip]; repeat' split
  all_goals simp
@[simp] theorem arriveTrip_intake (f : Frame) (r p : Int) (b : Bool) (s : State) : (arriveTrip f r p b s).intake = s.intake := by
  simp only [arriveTrip]; repeat' split
  all_goals simp
@[simp] theorem arriveTrip_demand (f : Frame) (r p : Int) (b : Bool) (s : State) : (arriveTrip f r p b s).demand = s.demand := by
  simp only [arriveTrip]; repeat' split
  all_goals simp
@[simp] theorem arriveTrip_freeIndex (f : Frame) (r p : Int) (b : Bool) (s : State) : (arriveTrip f r p b s).freeIndex = s.freeIndex := by
  simp only [arriveTrip]; repeat' split
  all_goals simp
@[simp] theorem arriveTrip_pending (f : Frame) (r p : Int) (b : Bool) (s : State) : (arriveTrip f r p b s).pending = s.pending := by
  simp only [arriveTrip]; repeat' split
  all_goals simp
@[simp] theorem arriveShed_ctl (f : Frame) (cut : Nat) (s : State) : (arriveShed f cut s).ctl = s.ctl := by
  simp [arriveShed]
@[simp] theorem arriveShed_intake (f : Frame) (cut : Nat) (s : State) : (arriveShed f cut s).intake = s.intake := by
  simp [arriveShed]
@[simp] theorem arriveShed_demand (f : Frame) (cut : Nat) (s : State) : (arriveShed f cut s).demand = s.demand := by
  simp [arriveShed]
@[simp] theorem arriveShed_freeIndex (f : Frame) (cut : Nat) (s : State) : (arriveShed f cut s).freeIndex = s.freeIndex := by
  simp [arriveShed]
@[simp] theorem arriveShed_pending (f : Frame) (cut : Nat) (s : State) : (arriveShed f cut s).pending = s.pending := by
  simp [arriveShed]
@[simp] theorem arrive_ctl (f : Frame) (b : Bool) (s : State) : (arrive f b s).ctl = s.ctl := by
  simp only [arrive]; repeat' split
  all_goals simp
@[simp] theorem arrive_intake (f : Frame) (b : Bool) (s : State) : (arrive f b s).intake = s.intake := by
  simp only [arrive]; repeat' split
  all_goals simp
@[simp] theorem arrive_demand (f : Frame) (b : Bool) (s : State) : (arrive f b s).demand = s.demand := by
  simp only [arrive]; repeat' split
  all_goals simp
@[simp] theorem arrive_freeIndex (f : Frame) (b : Bool) (s : State) : (arrive f b s).freeIndex = s.freeIndex := by
  simp only [arrive]; repeat' split
  all_goals simp
@[simp] theorem arrive_pending (f : Frame) (b : Bool) (s : State) : (arrive f b s).pending = s.pending := by
  simp only [arrive]; repeat' split
  all_goals simp
@[simp] theorem takeFrame_intake (f : Frame) (b : Bool) (s : State) : (takeFrame f b s).intake = s.intake := by
  simp only [takeFrame]; repeat' split
  all_goals simp
@[simp] theorem takeFrame_freeIndex (f : Frame) (b : Bool) (s : State) : (takeFrame f b s).freeIndex = s.freeIndex := by
  simp only [takeFrame]; repeat' split
  all_goals simp
@[simp] theorem takeFrame_pending (f : Frame) (b : Bool) (s : State) : (takeFrame f b s).pending = s.pending := by
  simp only [takeFrame]; repeat' split
  all_goals simp
@[simp] theorem endReception_ctl (n : Nat) (s : State) : (endReception n s).ctl = s.ctl := rfl
@[simp] theorem endReception_intake (n : Nat) (s : State) : (endReception n s).intake = s.intake := rfl
@[simp] theorem endReception_view (n : Nat) (s : State) : (endReception n s).view = s.view := rfl
@[simp] theorem endReception_ls (n : Nat) (s : State) : (endReception n s).ls = s.ls := rfl
@[simp] theorem endReception_demand (n : Nat) (s : State) : (endReception n s).demand = s.demand := rfl
@[simp] theorem endReception_shed (n : Nat) (s : State) : (endReception n s).shed = s.shed := rfl
@[simp] theorem endReception_cap (n : Nat) (s : State) : (endReception n s).cap = s.cap := rfl
@[simp] theorem endReception_port (n : Nat) (s : State) : (endReception n s).port = s.port := rfl
@[simp] theorem endReception_freeIndex (n : Nat) (s : State) : (endReception n s).freeIndex = s.freeIndex := rfl
@[simp] theorem endReception_pending (n : Nat) (s : State) : (endReception n s).pending = s.pending := rfl
@[simp] theorem passBy_ctl (line : List Bool) (s : State) : (passBy line s).ctl = s.ctl := rfl
@[simp] theorem passBy_intake (line : List Bool) (s : State) : (passBy line s).intake = s.intake := rfl
@[simp] theorem passBy_view (line : List Bool) (s : State) : (passBy line s).view = s.view := rfl
@[simp] theorem passBy_ls (line : List Bool) (s : State) : (passBy line s).ls = s.ls := rfl
@[simp] theorem passBy_demand (line : List Bool) (s : State) : (passBy line s).demand = s.demand := rfl
@[simp] theorem passBy_shed (line : List Bool) (s : State) : (passBy line s).shed = s.shed := rfl
@[simp] theorem passBy_cap (line : List Bool) (s : State) : (passBy line s).cap = s.cap := rfl
@[simp] theorem passBy_port (line : List Bool) (s : State) : (passBy line s).port = s.port := rfl
@[simp] theorem passBy_freeIndex (line : List Bool) (s : State) : (passBy line s).freeIndex = s.freeIndex := rfl
@[simp] theorem passBy_pending (line : List Bool) (s : State) : (passBy line s).pending = s.pending := rfl
@[simp] theorem dropFrame_intake (line : List Bool) (n : Nat) (s : State) : (dropFrame line n s).intake = s.intake := by
  simp only [dropFrame]; repeat' split
  all_goals simp
@[simp] theorem dropFrame_view (line : List Bool) (n : Nat) (s : State) : (dropFrame line n s).view = s.view := by
  simp only [dropFrame]; repeat' split
  all_goals simp
@[simp] theorem dropFrame_cap (line : List Bool) (n : Nat) (s : State) : (dropFrame line n s).cap = s.cap := by
  simp only [dropFrame]; repeat' split
  all_goals simp
@[simp] theorem dropFrame_freeIndex (line : List Bool) (n : Nat) (s : State) : (dropFrame line n s).freeIndex = s.freeIndex := by
  simp only [dropFrame]; repeat' split
  all_goals simp
@[simp] theorem dropFrame_pending (line : List Bool) (n : Nat) (s : State) : (dropFrame line n s).pending = s.pending := by
  simp only [dropFrame]; repeat' split
  all_goals simp
@[simp] theorem validFrame_intake (line : List Bool) (f : Frame) (b : Bool) (s : State) : (validFrame line f b s).intake = s.intake := by
  simp only [validFrame]; repeat' split
  all_goals simp
@[simp] theorem validFrame_freeIndex (line : List Bool) (f : Frame) (b : Bool) (s : State) : (validFrame line f b s).freeIndex = s.freeIndex := by
  simp only [validFrame]; repeat' split
  all_goals simp
@[simp] theorem validFrame_pending (line : List Bool) (f : Frame) (b : Bool) (s : State) : (validFrame line f b s).pending = s.pending := by
  simp only [validFrame]; repeat' split
  all_goals simp
@[simp] theorem takeSnapshot_ctl (s : State) : (takeSnapshot s).ctl = s.ctl := rfl
@[simp] theorem takeSnapshot_intake (s : State) : (takeSnapshot s).intake = s.intake := rfl
@[simp] theorem takeSnapshot_link (s : State) : (takeSnapshot s).link = s.link := rfl
@[simp] theorem takeSnapshot_view (s : State) : (takeSnapshot s).view = s.view := rfl
@[simp] theorem takeSnapshot_ls (s : State) : (takeSnapshot s).ls = s.ls := rfl
@[simp] theorem takeSnapshot_demand (s : State) : (takeSnapshot s).demand = s.demand := rfl
@[simp] theorem takeSnapshot_shed (s : State) : (takeSnapshot s).shed = s.shed := rfl
@[simp] theorem takeSnapshot_cap (s : State) : (takeSnapshot s).cap = s.cap := rfl
@[simp] theorem takeSnapshot_freeIndex (s : State) : (takeSnapshot s).freeIndex = s.freeIndex := rfl
@[simp] theorem takeSnapshot_pending (s : State) : (takeSnapshot s).pending = s.pending := rfl
@[simp] theorem stageEffect_intake (fields : List Byte) (s : State) : (stageEffect fields s).intake = s.intake := by
  simp only [stageEffect]; repeat' split
  all_goals simp
@[simp] theorem stageEffect_link (fields : List Byte) (s : State) : (stageEffect fields s).link = s.link := by
  simp only [stageEffect]; repeat' split
  all_goals simp
@[simp] theorem stageEffect_view (fields : List Byte) (s : State) : (stageEffect fields s).view = s.view := by
  simp only [stageEffect]; repeat' split
  all_goals simp
@[simp] theorem stageEffect_ls (fields : List Byte) (s : State) : (stageEffect fields s).ls = s.ls := by
  simp only [stageEffect]; repeat' split
  all_goals simp
@[simp] theorem stageEffect_demand (fields : List Byte) (s : State) : (stageEffect fields s).demand = s.demand := by
  simp only [stageEffect]; repeat' split
  all_goals simp
@[simp] theorem stageEffect_shed (fields : List Byte) (s : State) : (stageEffect fields s).shed = s.shed := by
  simp only [stageEffect]; repeat' split
  all_goals simp
@[simp] theorem stageEffect_cap (fields : List Byte) (s : State) : (stageEffect fields s).cap = s.cap := by
  simp only [stageEffect]; repeat' split
  all_goals simp
@[simp] theorem stageEffect_freeIndex (fields : List Byte) (s : State) : (stageEffect fields s).freeIndex = s.freeIndex := by
  simp only [stageEffect]; repeat' split
  all_goals simp
@[simp] theorem stageEffect_pending (fields : List Byte) (s : State) : (stageEffect fields s).pending = s.pending := by
  simp only [stageEffect]; repeat' split
  all_goals simp
@[simp] theorem clearTripEffect_ctl (s : State) : (clearTripEffect s).ctl = s.ctl := by
  simp only [clearTripEffect]; repeat' split
  all_goals simp
@[simp] theorem clearTripEffect_intake (s : State) : (clearTripEffect s).intake = s.intake := by
  simp only [clearTripEffect]; repeat' split
  all_goals simp
@[simp] theorem clearTripEffect_link (s : State) : (clearTripEffect s).link = s.link := by
  simp only [clearTripEffect]; repeat' split
  all_goals simp
@[simp] theorem clearTripEffect_view (s : State) : (clearTripEffect s).view = s.view := by
  simp only [clearTripEffect]; repeat' split
  all_goals simp
@[simp] theorem clearTripEffect_shed (s : State) : (clearTripEffect s).shed = s.shed := by
  simp only [clearTripEffect]; repeat' split
  all_goals simp
@[simp] theorem clearTripEffect_cap (s : State) : (clearTripEffect s).cap = s.cap := by
  simp only [clearTripEffect]; repeat' split
  all_goals simp
@[simp] theorem clearTripEffect_freeIndex (s : State) : (clearTripEffect s).freeIndex = s.freeIndex := by
  simp only [clearTripEffect]; repeat' split
  all_goals simp
@[simp] theorem clearTripEffect_pending (s : State) : (clearTripEffect s).pending = s.pending := by
  simp only [clearTripEffect]; repeat' split
  all_goals simp
@[simp] theorem standbyEffect_freeIndex (s : State) : (standbyEffect s).freeIndex = s.freeIndex := by
  simp only [standbyEffect]; repeat' split
  all_goals simp
@[simp] theorem standbyEffect_pending (s : State) : (standbyEffect s).pending = s.pending := by
  simp only [standbyEffect]; repeat' split
  all_goals simp
@[simp] theorem endSelect_freeIndex (s : State) : (endSelect s).freeIndex = s.freeIndex := by
  simp only [endSelect]; repeat' split
  all_goals simp
@[simp] theorem endSelect_pending (s : State) : (endSelect s).pending = s.pending := by
  simp only [endSelect]; repeat' split
  all_goals simp
@[simp] theorem answerWith_ctl (r : Result) (content : List Byte) (kind : ReplyKind) (s : State) : (answerWith r content kind s).ctl = s.ctl := rfl
@[simp] theorem answerWith_intake (r : Result) (content : List Byte) (kind : ReplyKind) (s : State) : (answerWith r content kind s).intake = s.intake := rfl
@[simp] theorem answerWith_link (r : Result) (content : List Byte) (kind : ReplyKind) (s : State) : (answerWith r content kind s).link = s.link := rfl
@[simp] theorem answerWith_view (r : Result) (content : List Byte) (kind : ReplyKind) (s : State) : (answerWith r content kind s).view = s.view := rfl
@[simp] theorem answerWith_ls (r : Result) (content : List Byte) (kind : ReplyKind) (s : State) : (answerWith r content kind s).ls = s.ls := rfl
@[simp] theorem answerWith_demand (r : Result) (content : List Byte) (kind : ReplyKind) (s : State) : (answerWith r content kind s).demand = s.demand := rfl
@[simp] theorem answerWith_shed (r : Result) (content : List Byte) (kind : ReplyKind) (s : State) : (answerWith r content kind s).shed = s.shed := rfl
@[simp] theorem answerWith_cap (r : Result) (content : List Byte) (kind : ReplyKind) (s : State) : (answerWith r content kind s).cap = s.cap := rfl
@[simp] theorem answerWith_freeIndex (r : Result) (content : List Byte) (kind : ReplyKind) (s : State) : (answerWith r content kind s).freeIndex = s.freeIndex := rfl
@[simp] theorem answerWith_pending (r : Result) (content : List Byte) (kind : ReplyKind) (s : State) : (answerWith r content kind s).pending = s.pending := rfl
@[simp] theorem refuse_ctl (r : Result) (s : State) : (refuse r s).ctl = s.ctl := rfl
@[simp] theorem refuse_intake (r : Result) (s : State) : (refuse r s).intake = s.intake := rfl
@[simp] theorem refuse_link (r : Result) (s : State) : (refuse r s).link = s.link := rfl
@[simp] theorem refuse_view (r : Result) (s : State) : (refuse r s).view = s.view := rfl
@[simp] theorem refuse_ls (r : Result) (s : State) : (refuse r s).ls = s.ls := rfl
@[simp] theorem refuse_demand (r : Result) (s : State) : (refuse r s).demand = s.demand := rfl
@[simp] theorem refuse_shed (r : Result) (s : State) : (refuse r s).shed = s.shed := rfl
@[simp] theorem refuse_cap (r : Result) (s : State) : (refuse r s).cap = s.cap := rfl
@[simp] theorem refuse_freeIndex (r : Result) (s : State) : (refuse r s).freeIndex = s.freeIndex := rfl
@[simp] theorem refuse_pending (r : Result) (s : State) : (refuse r s).pending = s.pending := rfl
@[simp] theorem Service.effect_freeIndex (c : Service) (fields : List Byte) (s : State) : (c.effect fields s).freeIndex = s.freeIndex := by
  cases c <;> simp [Service.effect]
@[simp] theorem Service.effect_pending (c : Service) (fields : List Byte) (s : State) : (c.effect fields s).pending = s.pending := by
  cases c <;> simp [Service.effect]
@[simp] theorem endInit_intake (s : State) : (endInit s).intake = s.intake := by simp [endInit]
@[simp] theorem endInit_link (s : State) : (endInit s).link = s.link := by simp [endInit]
@[simp] theorem endInit_demand (s : State) : (endInit s).demand = s.demand := by simp [endInit]
@[simp] theorem endInit_cap (s : State) : (endInit s).cap = s.cap := by simp [endInit]
@[simp] theorem endInit_freeIndex (s : State) : (endInit s).freeIndex = s.freeIndex := by simp [endInit]
@[simp] theorem endInit_pending (s : State) : (endInit s).pending = s.pending := by simp [endInit]

end Machine
end Sys2Proof
end

