-- ==== Sys2Proof/Laws/Ops.lean ====
section
/-! SUPPORT. Laws/Ops.lean: for the shared operations, what each can do, said once: the change word and the line at a raise, an
alert's three fates, BIAS-VALID, the unit at breaker settles, the groups and the cut rank, the tie state, the peer table, the
slots, the answer of the port. Later proofs cite these and do not unfold the operation. -/

namespace Sys2Proof
namespace Machine

/-! ### The change word (R169 to R172) -/

@[simp] theorem raise_changeWord (f : ChangeFlag) (s : State) :
    (raise f s).port.changeWord = s.port.changeWord ||| f.mask := rfl
@[simp] theorem raise_phase (f : ChangeFlag) (s : State) : (raise f s).port.phase = s.port.phase := rfl
@[simp] theorem raise_reply (f : ChangeFlag) (s : State) : (raise f s).port.reply = s.port.reply := rfl
@[simp] theorem raise_snapshot (f : ChangeFlag) (s : State) : (raise f s).port.snapshot = s.port.snapshot := rfl
@[simp] theorem clearFlags_changeWord (w : FlagWord) (s : State) :
    (clearFlags w s).port.changeWord = s.port.changeWord &&& ~~~w := rfl
@[simp] theorem clearFlags_phase (w : FlagWord) (s : State) : (clearFlags w s).port.phase = s.port.phase := rfl
@[simp] theorem clearFlags_reply (w : FlagWord) (s : State) : (clearFlags w s).port.reply = s.port.reply := rfl

/-- A flag's mask sets that flag and no other (R178). -/
theorem flagSet_mask (f g : ChangeFlag) : flagSet f.mask g = decide (f = g) := by cases f <;> cases g <;> decide

/-- A raise sets its flag and leaves the others (R169). -/
theorem flagSet_raise (f g : ChangeFlag) (s : State) :
    flagSet (raise f s).port.changeWord g = (flagSet s.port.changeWord g || decide (f = g)) := by
  have h : flagSet (s.port.changeWord ||| f.mask) g = (flagSet s.port.changeWord g || flagSet f.mask g) := by
    simp [flagSet]
  rw [raise_changeWord, h, flagSet_mask]

/-- In LEVEL mode the line follows the change word at a raise (R172). -/
theorem raise_attention_level (f : ChangeFlag) (s : State) (h : s.ctl.cfg.attentionMode = .level) :
    (raise f s).port.attention = attentionLevel s.ctl.cfg (raise f s).port.changeWord := by
  simp [raise, Port.raise, State.setPort, h]

/-- In LEVEL mode the line follows the change word at a clearing (R172). -/
theorem clearFlags_attention_level (w : FlagWord) (s : State) (h : s.ctl.cfg.attentionMode = .level) :
    (clearFlags w s).port.attention = attentionLevel s.ctl.cfg (clearFlags w s).port.changeWord := by
  simp [clearFlags, Port.clear, State.setPort, h]

/-! ### Alerts, the actuator record, BIAS-VALID -/

/-- An alert is queued, dropped with ALERT-DROP at a full queue, or neither outside RUN and FALLBACK (R25, R30). -/
theorem queueAlert_cases (a : Alert) (s : State) :
    (s.ctl.station.transmits = true ∧ s.link.alerts.length < 4 ∧
      queueAlert a s = s.setLink { s.link with alerts := s.link.alerts ++ [a] }) ∨
    (s.ctl.station.transmits = true ∧ 4 ≤ s.link.alerts.length ∧ queueAlert a s = raise .alertDrop s) ∨
    (s.ctl.station.transmits = false ∧ queueAlert a s = s) := by
  unfold queueAlert
  cases h : s.ctl.station.transmits with
  | false => simp
  | true =>
    by_cases hl : s.link.alerts.length < 4
    · simp [hl]
    · simp [hl, Nat.le_of_not_lt hl]

/-- The queue never passes four (R25). -/
theorem queueAlert_length (a : Alert) (s : State) (h : s.link.alerts.length ≤ 4) :
    (queueAlert a s).link.alerts.length ≤ 4 := by
  rcases queueAlert_cases a s with ⟨_, hl, e⟩ | ⟨_, _, e⟩ | ⟨_, e⟩ <;> rw [e]
  · simp; omega
  · simpa using h
  · exact h

/-- A genset station's record carries the values standing; only the record and its count change (R80). -/
theorem sendActuator_ls (s : State) (h : s.isGenset = true) :
    (sendActuator s).ls = { s.ls with
      actuator := { speedBias := s.ls.speedBias, voltBias := s.ls.voltBias, biasValid := s.ls.biasValid }
      actuatorSent := s.ls.actuatorSent + 1 } := by
  simp [sendActuator, h]

/-- At the end of INIT the load-share unit stands, but for the record a genset station sends (R80). -/
theorem endInit_ls (s : State) : (endInit s).ls = (sendActuator s).ls := by
  unfold endInit sendActuator State.isGenset
  split <;> simp_all [State.setLs, State.setView, State.setPort, State.setShed, State.setCtl, Control.endInit]

/-- After a whole frame that passes by, the line is BUSY with the count 0 (R18, R36). -/
theorem Link.passed_valid (line : List Bool) (f : Frame) (l : Link) (h : receive line = .valid f) :
    l.passed line = { l with monitor := .busy, recessive := 0 } := by simp [Link.passed, h]

/-- After a frame that breaks off, the count goes on from where a check failed (R18, R32). -/
theorem Link.passed_dropped (line : List Bool) (n : Nat) (l : Link) (h : receive line = .dropped n) :
    l.passed line = { l with monitor := .busy, recessive := n } := by simp [Link.passed, h]

/-- An abandoned ramp-out is ONLINE with TRIP released; any other unit stands (R78). -/
theorem abandonRampOut_unit (s : State) :
    (abandonRampOut s).ls.unit = if s.ls.unit = .rampOut then .online else s.ls.unit := by
  unfold abandonRampOut
  by_cases h : s.ls.unit = .rampOut <;> simp [h]

/-- Abandoning a ramp-out touches neither the biases nor BIAS-VALID (R78). -/
theorem abandonRampOut_bias (s : State) :
    (abandonRampOut s).ls.biasValid = s.ls.biasValid ∧ (abandonRampOut s).ls.speedBias = s.ls.speedBias ∧
    (abandonRampOut s).ls.voltBias = s.ls.voltBias := by
  unfold abandonRampOut
  by_cases h : s.ls.unit = .rampOut <;> simp [h, LoadShare.clearRamp]

/-- After it BIAS-VALID stands at its level (R64). -/
theorem refreshBias_biasValid (s : State) : (refreshBias s).ls.biasValid = s.biasLevel := by
  unfold refreshBias
  split
  · next h => rw [(abandonRampOut_bias _).1]; simp [LoadShare.dropBias, h.2]
  · simp

/-! ### Breaker settles -/

/-- A set breaker that settles CLOSED brings an OFFLINE or STARTING set to RAMP-IN in RUN, FALLBACK and SILENT (R56). -/
theorem setSettlesClosed_else (s : State)
    (h : ¬(s.ctl.station.working = true ∧ (s.ls.unit = .offline ∨ s.ls.unit = .starting))) :
    setSettlesClosed s = s := by simp only [setSettlesClosed, if_neg h]

/-- A set breaker that settles OPEN off the bus changes nothing (R59). -/
theorem setSettlesOpen_offBus (s : State) (h : s.ls.unit.onBus = false) : setSettlesOpen s = s := by
  simp [setSettlesOpen, h]

/-! ### Groups and the cut rank -/

/-- An output event sets the output, but for an ABSENT group (R99). -/
theorem Group.assertOutput_output (g : Group) (h : g.state ≠ .absent) : g.assertOutput.output = true := by
  unfold Group.assertOutput; split <;> simp_all

/-- A release clears the output, but for an ABSENT group (R99). -/
theorem Group.releaseOutput_output (g : Group) (h : g.state ≠ .absent) : g.releaseOutput.output = false := by
  unfold Group.releaseOutput; split <;> simp_all

/-- Output events keep a group present or ABSENT (R97). -/
theorem Group.assertOutput_absent (g : Group) : g.assertOutput.state = .absent ↔ g.state = .absent := by
  unfold Group.assertOutput; split <;> simp_all

/-- Output events keep a group present or ABSENT (R97). -/
theorem Group.releaseOutput_absent (g : Group) : g.releaseOutput.state = .absent ↔ g.state = .absent := by
  unfold Group.releaseOutput; split <;> simp_all

/-- An increase gives the new cut rank and starts the settle timer (R104). -/
theorem increaseCut_shed (cut : Nat) (cause : Option ShedCause) (s : State) :
    (increaseCut cut cause s).shed = s.shedRaised cut := by
  unfold increaseCut
  cases cause <;> simp only [] <;> split <;> simp

/-- A restoration step lowers the cut rank by one (R104). -/
theorem restoreOne_shed (s : State) :
    (restoreOne s).shed =
      { s.shed with cut := s.shed.cut - 1, restore := 0, groups := s.groupsAtCut (s.shed.cut - 1) } := by
  simp [restoreOne]

/-- The search for r* answers 15 or a rank it searched that covers the deficit (R106). -/
theorem chooseRank_spec (groups : List GroupEntry) (cut : Nat) (deficit : Int) (left r : Nat) :
    (∃ x, chooseRank groups cut deficit left r = x ∧ r ≤ x ∧ x < r + left ∧ deficit ≤ relief groups cut x ∧
      ∀ y, r ≤ y → y < x → relief groups cut y < deficit) ∨
    (chooseRank groups cut deficit left r = 15 ∧ ∀ y, r ≤ y → y < r + left → relief groups cut y < deficit) := by
  induction left generalizing r with
  | zero => right; exact ⟨rfl, fun y h1 h2 => by omega⟩
  | succ left ih =>
    by_cases h : deficit ≤ relief groups cut r
    · left; exact ⟨r, by simp [chooseRank, h], by omega, by omega, h, fun y h1 h2 => by omega⟩
    · have hr : relief groups cut r < deficit := by omega
      rcases ih (r + 1) with ⟨x, e, h1, h2, h3, h4⟩ | ⟨e, h4⟩
      · left
        refine ⟨x, by simp [chooseRank, h, e], by omega, by omega, h3, fun y hy1 hy2 => ?_⟩
        by_cases hy : y = r
        · rw [hy]; exact hr
        · exact h4 y (by omega) hy2
      · right
        refine ⟨by simp [chooseRank, h, e], fun y hy1 hy2 => ?_⟩
        by_cases hy : y = r
        · rw [hy]; exact hr
        · exact h4 y (by omega) (by omega)

/-! ### The peer table -/

/-- The entry put into the table is the one found at its address (R37). -/
theorem findPeer_putPeer_same (e : PeerEntry) (peers : List PeerEntry) :
    findPeer (putPeer e peers) e.address = some e := by
  induction peers with
  | nil => simp [putPeer, findPeer]
  | cons x rest ih =>
    simp only [findPeer] at ih ⊢
    unfold putPeer
    split
    · simp
    · split
      · simp
      · next h _ => simp [h, ih]

/-- The entries of other addresses stand (R37). -/
theorem findPeer_putPeer_other (e : PeerEntry) (peers : List PeerEntry) (a : Address) (h : a ≠ e.address) :
    findPeer (putPeer e peers) a = findPeer peers a := by
  have he : ¬ e.address = a := fun h' => h h'.symm
  induction peers with
  | nil => simp [putPeer, findPeer, he]
  | cons x rest ih =>
    simp only [findPeer] at ih ⊢
    unfold putPeer
    split
    · next hx => simp [he, hx]
    · split
      · simp [List.find?_cons, he]
      · simp only [List.find?_cons, ih]

/-- An entry found stands at the address asked for. -/
theorem findPeer_address (peers : List PeerEntry) (a : Address) (e : PeerEntry) (h : findPeer peers a = some e) :
    e.address = a ∧ e ∈ peers := by
  unfold findPeer at h
  exact ⟨by simpa using List.find?_some h, List.mem_of_find?_eq_some h⟩

/-- The addresses of a table after a put. -/
theorem mem_putPeer (e x : PeerEntry) (peers : List PeerEntry) (h : x ∈ putPeer e peers) : x = e ∨ x ∈ peers := by
  induction peers with
  | nil => simpa [putPeer] using h
  | cons y rest ih =>
    unfold putPeer at h
    split at h
    · rcases List.mem_cons.1 h with h | h
      · exact .inl h
      · exact .inr (List.mem_cons_of_mem _ h)
    · split at h
      · simpa using h
      · rcases List.mem_cons.1 h with h | h
        · exact .inr (by simp [h])
        · rcases ih h with h | h
          · exact .inl h
          · exact .inr (List.mem_cons_of_mem _ h)

/-- The table stays in rising address order (R37). -/
theorem putPeer_sorted (e : PeerEntry) (peers : List PeerEntry)
    (h : (peers.map PeerEntry.address).Pairwise (· < ·)) :
    ((putPeer e peers).map PeerEntry.address).Pairwise (· < ·) := by
  induction peers with
  | nil => simp [putPeer]
  | cons x rest ih =>
    rw [List.map_cons, List.pairwise_cons] at h
    unfold putPeer
    split
    · next hx => rw [List.map_cons, List.pairwise_cons]; exact ⟨by rw [← hx]; exact h.1, h.2⟩
    · split
      · next hlt =>
        rw [List.map_cons, List.pairwise_cons, List.map_cons, List.pairwise_cons]
        refine ⟨fun a ha => ?_, h⟩
        rcases List.mem_cons.1 ha with ha | ha
        · rw [ha]; exact hlt
        · exact lt_trans hlt (h.1 a ha)
      · next hne hlt =>
        rw [List.map_cons, List.pairwise_cons]
        refine ⟨fun a ha => ?_, ih h.2⟩
        obtain ⟨y, hy, rfl⟩ := List.mem_map.1 ha
        rcases mem_putPeer e y rest hy with hy | hy
        · subst hy; exact lt_of_le_of_ne (not_lt.1 hlt) hne
        · exact h.1 _ (List.mem_map_of_mem hy)

/-! ### The tie state and the sums -/

/-- After a derivation the derived tie state is the one held, in the state the view then stands in (R44). -/
theorem deriveTieNow_tieClosed (s : State) : (deriveTieNow s).view.tieClosed = s.derivedTie := by
  unfold deriveTieNow
  split
  · next h => exact h.symm
  · simp [formSums]

/-- The sums formed are those of the state, and nothing else of the view changes (R52). -/
theorem formSums_view (s : State) : (formSums s).view = { s.view with sums := s.computeSums } := rfl

/-! ### Slots -/

/-- Arming changes at most one slot, a FREE one, and only where none is active (R124). -/
theorem armSlot_cases (s : State) :
    armSlot s = s ∨
    ∃ i, s.cap.activeSlot = none ∧ s.cap.freeSlot = some i ∧ armSlot s = s.setCap (s.cap.setSlot i (.armed [])) := by
  unfold armSlot
  split
  · next h =>
    cases hf : s.cap.freeSlot with
    | none => simp
    | some i => right; exact ⟨i, h.2.2, rfl, by simp⟩
  · exact .inl rfl

/-- A slot number found active is active. -/
theorem activeSlot_active (c : Capture) (i : SlotNo) (h : c.activeSlot = some i) : c.slots[i].active = true := by
  simpa using List.find?_some h

/-- A slot number found FREE is FREE. -/
theorem freeSlot_free (c : Capture) (i : SlotNo) (h : c.freeSlot = some i) : c.slots[i] = .free := by
  have h' : c.slots[i].isFree = true := by simpa using List.find?_some h
  cases hs : c.slots[i] <;> simp_all [Slot.isFree]

/-- With no slot number found active, no slot is. -/
theorem activeSlot_none (c : Capture) (h : c.activeSlot = none) (i : SlotNo) : c.slots[i].active = false := by
  have h' := List.find?_eq_none.1 h i (by fin_cases i <;> decide)
  simpa using h'

/-- The counter never falls (R132). -/
theorem le_countUp (n : Nat) : n ≤ countUp n := by unfold countUp; split <;> omega

/-- An offer never lowers the counter (R132). -/
theorem offerTrigger_counter (cause : TriggerCause) (s : State) : s.cap.counter ≤ (offerTrigger cause s).cap.counter := by
  have h : ∀ m o n, n ≤ countTrigger m o n := by
    intro m o n
    cases o with
    | notTaken => exact Nat.le_refl _
    | started => exact le_countUp n
    | overlap => exact le_countUp n
    | refused r => cases m with
      | accepted => exact Nat.le_refl _
      | all => exact le_countUp n
  simpa [offerTrigger] using h _ _ _

/-! ### The service port and the answers -/

/-- With no accepted RESTART waiting, the end of a select period leaves the port waiting and changes nothing else (R161). -/
theorem endSelect_eq (s : State) (h : Safety.noRestart s) : endSelect s = s.setPort { s.port with phase := .waiting } := by
  have h' : ¬ s.port.phase = .replying .restart := h
  simp [endSelect, h']

/-- A command judged refused changes the reply in progress alone (R162). -/
theorem answerCommand_refused (code : Byte) (fields : List Byte) (s : State) (r : Result) (h : judge code fields s = r)
    (hr : r ≠ .accepted) : answerCommand code fields s = refuse r s := by
  unfold answerCommand
  rw [h]
  cases r <;> first | rfl | exact absurd rfl hr

/-- A command judged accepted has its effect and its reply (R162). -/
theorem answerCommand_accepted (code : Byte) (fields : List Byte) (s : State) (c : Service)
    (h : judge code fields s = .accepted) (hc : Service.ofCode code = some c) :
    answerCommand code fields s = accept c fields s := by
  unfold answerCommand
  rw [h, hc]

/-! ### No command stops the station -/

/-- All that TRANSMIT_ERROR can do: no flight, nothing; a dominant bit read, an error in the frame; none read, the error of the
start bit, which leaves the line IDLE and no frame in reception. -/
theorem execTransmitError_cases (s t : State) (h : execTransmitError s = .next t) :
    (s.link.flight = none ∧ t = s) ∨
    ∃ fl, s.link.flight = some fl ∧
      ((s.link.startRead = true ∧ t = errFrame fl s) ∨
       (s.link.startRead = false ∧ t = errStartBit fl s ∧ t.link.monitor = .idle ∧ t.link.receiving = false)) := by
  unfold execTransmitError at h
  cases hf : s.link.flight with
  | none => rw [hf] at h; exact .inl ⟨rfl, by simpa using h.symm⟩
  | some fl =>
    rw [hf] at h
    cases hr : s.link.startRead with
    | true => exact .inr ⟨fl, rfl, .inl ⟨rfl, by simpa [hr] using h.symm⟩⟩
    | false =>
      have e : t = errStartBit fl s := by simpa [hr] using h.symm
      exact .inr ⟨fl, rfl, .inr ⟨rfl, e, by rw [e]; rfl, by rw [e]; rfl⟩⟩

/-- A running timer is due exactly from its time on. -/
theorem timerDue_some (limit n : Nat) : timerDue limit (some n) = decide (limit ≤ n) := rfl

/-- A timer is due after a microsecond exactly when it reaches its time with it. -/
theorem timerDue_tick (limit : Nat) (t : Option Nat) :
    timerDue limit (tickTimer t) = true ↔ Safety.reaches limit t := by
  cases t <;> simp [timerDue, tickTimer, Safety.reaches]

/-- A group's confirm timer is due exactly at a SHEDDING group and from confirm_time on (R101). -/
theorem confirmDue_iff (s : State) (g : GroupNo) :
    s.confirmDue g = true ↔ s.shed.groups[g].state = .shedding ∧
      ∃ n, s.shed.groups[g].confirm = some n ∧ s.ctl.cfg.confirmUs ≤ n := by
  unfold State.confirmDue
  cases s.shed.groups[g].confirm <;> simp [timerDue]

/-- An event is among the due ones exactly when its condition holds. -/
theorem mem_dueIf (cond : Bool) (i x : Instr) : x ∈ dueIf cond i ↔ cond = true ∧ x = i := by
  cases cond <;> simp [dueIf]

/-- Limiting to a range about 0 is the station's clamp to it (R64). -/
theorem clampInt_limited (limit x : Int) (h : 0 ≤ limit) : clampInt x (-limit) limit = Safety.limited limit x := by
  unfold clampInt Safety.limited; split <;> (try split) <;> omega

/-- A command put into a list by its rank is in it with the others. -/
theorem insertRanked_perm (x : Nat × Instr) (l : List (Nat × Instr)) : (insertRanked x l).Perm (x :: l) := by
  induction l with
  | nil => exact .refl _
  | cons y rest ih =>
    simp only [insertRanked]
    split
    · exact .refl _
    · exact (ih.cons y).trans (.swap _ _ _)

/-- The ranks go with the commands they are given to. -/
theorem withRanks_snd (choice : Nat) (l : List Instr) : ∀ i, (withRanks choice i l).map Prod.snd = l := by
  induction l with
  | nil => intro i; rfl
  | cons x rest ih => intro i; simp [withRanks, ih]

/-- The free order of an instant holds each event once and no other. -/
theorem raceOrder_perm (choice : Nat) (events : List Instr) : (raceOrder choice events).Perm events := by
  have sorted (l : List (Nat × Instr)) : (l.foldr insertRanked []).Perm l := by
    induction l with
    | nil => exact .refl _
    | cons y rest ih => exact (insertRanked_perm _ _).trans (ih.cons y)
  have h := (sorted (withRanks choice 0 events)).map Prod.snd
  rwa [withRanks_snd] at h

/-- Every command is answered with a next state: the spec stops the station on none. -/
theorem exec_answers (c : Instr) (s : State) : ∃ t, exec c s = .next t := by
  cases c with
  | transitTimeout b =>
    cases b <;> simp only [exec, execTransitTimeout] <;> split <;> exact ⟨_, rfl⟩
  | sampleArrival bytes order =>
    simp only [exec, execSampleArrival]; split
    · split <;> exact ⟨_, rfl⟩
    · exact ⟨_, rfl⟩
  | frameStart =>
    simp only [exec, execFrameStart]; split
    · split <;> exact ⟨_, rfl⟩
    · exact ⟨_, rfl⟩
  | frameReceived line first =>
    simp only [exec, execFrameReceived]; split
    · split <;> exact ⟨_, rfl⟩
    · exact ⟨_, rfl⟩
  | statusReadClear =>
    simp only [exec, execStatusReadClear]; split
    · split <;> exact ⟨_, rfl⟩
    · exact ⟨_, rfl⟩
  | arbitrationLoss => simp only [exec, execArbitrationLoss]; split <;> exact ⟨_, rfl⟩
  | transmitError => simp only [exec, execTransmitError]; split <;> exact ⟨_, rfl⟩
  | endOfInit => simp only [exec, execEndOfInit]; split <;> exact ⟨_, rfl⟩
  | measureTimerHeld => simp only [exec, execMeasureTimerHeld]; split <;> exact ⟨_, rfl⟩
  | measureTimerFault => simp only [exec, execMeasureTimerFault]; split <;> exact ⟨_, rfl⟩
  | confirmTimeout g => simp only [exec, execConfirmTimeout]; split <;> exact ⟨_, rfl⟩
  | tripTimeout => simp only [exec, execTripTimeout]; split <;> exact ⟨_, rfl⟩
  | stopPulseEnd => simp only [exec, execStopPulseEnd]; split <;> exact ⟨_, rfl⟩
  | lineIdle => simp only [exec, execLineIdle]; split <;> exact ⟨_, rfl⟩
  | timeTagWrap => simp only [exec, execTimeTagWrap]; split <;> exact ⟨_, rfl⟩
  | readoutComplete => simp only [exec, execReadoutComplete]; split <;> exact ⟨_, rfl⟩
  | storeCompletion => simp only [exec, execStoreCompletion]; split <;> exact ⟨_, rfl⟩
  | restartReset pins => simp only [exec, execRestartReset]; split <;> exact ⟨_, rfl⟩
  | attentionPulseEnd => simp only [exec, execAttentionPulseEnd]; split <;> exact ⟨_, rfl⟩
  | _ => exact ⟨_, rfl⟩

end Machine
end Sys2Proof
end

