-- ==== Sys2Proof/Tests/Slice0.lean ====
section
/-! SUPPORT. Tests/Slice0.lean: tests on small states: the WellFormed smoke test, the manual's worked figures, one step of each
family, and for every statement with hypotheses a state that meets them (theorems witness_…). Expected values are the
manual's, cited at each test, or hand arithmetic from its rules. -/

namespace Sys2Proof
namespace Tests

-- One thread checks this file: its many short proofs would otherwise each hold a thread in the joined text.
set_option Elab.async false

open Machine Safety

/-! ### WellFormed refuses an ill-formed command of each kind -/

theorem test_wf_sample_order : Instr.wellFormed (.sampleArrival [] [.row, .row, .tie, .dead, .ufShed, .ufTrigger]) = false := by
  decide
theorem test_wf_expiry_order : Instr.wellFormed (.shareTimerExpiry [.link, .shed]) = false := by decide
theorem test_wf_listen_end_order : Instr.wellFormed (.listenEnd [.link, .shed, .shed, .demand]) = false := by decide
theorem test_wf_frame_start_bit : Instr.wellFormed (.frameReceived [true, false] true) = false := by decide
theorem test_wf_frame_empty : Instr.wellFormed (.frameReceived [] true) = false := by decide
theorem test_wf_known_code_is_not_unknown : Instr.wellFormed (.unknownCommand 0x12 []) = false := by decide
theorem test_wf_unknown_code : Instr.wellFormed (.unknownCommand 0x13 []) = true := by decide
theorem test_wf_too_many_fields : Instr.wellFormed (.ackChanges (List.replicate 65536 0)) = false := by
  simp only [Instr.wellFormed, fieldsOk, List.length_replicate]; decide
theorem test_wf_whole_orders : Instr.wellFormed (.sampleArrival [] SamplePart.all) = true ∧
    Instr.wellFormed (.ladderStep ExpiryPart.all) = true := by decide

/-- spec/opcode_table.json gives no row any bits. -/
theorem test_no_table_word : decodeTableWord 8 0x01 = none := by decide

/-! ### Arithmetic and formats -/

/-- R65: a Pmean of −700 kW on 12000 kW is −583 bp; halves go away from zero (spec 4.3). -/
theorem test_round : roundDiv (-7000000) 12000 = -583 ∧ roundDiv 5 2 = 3 ∧ roundDiv (-5) 2 = -3 := by decide
/-- R21: the check of the nine bytes 31h to 39h, worked by hand from the generator and the start value. -/
theorem test_crc : crc16 (bytesBits [0x31, 0x32, 0x33, 0x34, 0x35, 0x36, 0x37, 0x38, 0x39]) = 0x29B1 := by decide +kernel
/-- 2.9, point 1: six dominant bits of a TRIP ALERT of address 1, a recessive stuff bit, the last address bit. -/
theorem test_stuffed_trip_alert : (stuff [false, false, false, false, false, false, true]) =
    [false, false, false, false, false, false, true, true] := by decide
/-- R176: a genset record, by its bytes. -/
theorem test_genset_record : parseSample .genset [1, 0xFD, 0x44, 0, 10, 0xC3, 0x50, 1, 0xC2, 5] =
    some { p := -700, q := 10, f := 50000, v := 450, loads := Vector.replicate 8 0, setAux := ⟨true, false⟩,
           groupAux := Vector.replicate 8 ⟨false, false⟩, tieAux := ⟨false, false⟩, ready := true } := by decide
/-- R1: a genset record fails at a feeder station. -/
theorem test_wrong_role_record : parseSample .feeder [1, 0, 0, 0, 0, 0, 0, 0, 0, 0] = none := by decide
/-- R175: codes that no transmitter sends. -/
theorem test_coerced_codes : unitOfCode 6 = .tripped ∧ modeOfCode 3 = .droop ∧ groupOfCode 7 = .fault ∧
    causeOfCode 3 = .capacity ∧ readRating 99 = 100 ∧ readCapacity 32767 = 32000 ∧ readOrder 0 = 15 := by decide

/-! ### States and records -/

/-- A genset record in every range of R177: address-free, Prated 12000, the gains of 4.4's example. -/
def record : List Byte :=
  [1, 0, 1, 0] ++ natBytes 2 57000 ++ natBytes 2 300 ++ [5] ++ natBytes 2 60000 ++ natBytes 2 6600 ++ natBytes 2 6000 ++
  natBytes 2 12000 ++ natBytes 2 9000 ++ natBytes 2 9500 ++ natBytes 2 300 ++ natBytes 2 500 ++
  natBytes 2 100 ++ natBytes 2 100 ++ natBytes 2 500 ++ [1] ++ natBytes 2 100 ++ natBytes 2 1500 ++ natBytes 2 1 ++
  [0] ++ List.replicate 8 0 ++ natBytes 2 200 ++ [1, 0, 10] ++ natBytes 2 1 ++ natBytes 2 59000 ++
  [2, 15, 1, 0] ++ [0, 0xFF, 0xFF, 0] ++ [64, 128, 64, 32, 0] ++ natBytes 2 8000 ++ natBytes 2 8500 ++ natBytes 2 9000 ++
  natBytes 2 500 ++ [1]

/-- The same settings for a feeder with groups 0 and 1 of ranks 1 and 2. -/
def feederSettings : Settings :=
  { parseSettings record with role := .feeder, present := Vector.ofFn (fun g : GroupNo => decide (g.val < 2)),
                              rank := Vector.ofFn (fun g : GroupNo => g.val + 1) }

/-- A genset station of address 2 with the record's settings in a station state, its blocks as after reset. -/
def genset (station : StationState) : State :=
  { State.reset with
    ctl := { State.reset.ctl with
      station := station, straps := ⟨2, .genset, .a⟩, cfg := parseSettings record, stored := record ++ crcBytes record,
      shareTimer := if station.active then some 0 else none }
    port := { State.reset.port with phase := .waiting } }

/-- A feeder station of address 9 in a station state, its two groups CONNECTED and its cut rank 0. -/
def feeder (station : StationState) : State :=
  { State.reset with
    ctl := { State.reset.ctl with
      station := station, straps := ⟨9, .feeder, .a⟩, cfg := feederSettings,
      shareTimer := if station.active then some 0 else none }
    shed := { State.reset.shed with
      cut := 0
      groups := Vector.ofFn (fun g : GroupNo =>
        if g.val < 2 then { state := .connected, remembered := 0, output := false, confirm := none }
        else Group.absentGroup) } }

/-- A genset station in RUN with its set ONLINE under bias, measurement GOOD. -/
def online : State :=
  { genset .run with
    ls := { (genset .run).ls with unit := .online, biasValid := true }
    intake := { (genset .run).intake with
      measure := .good, measureTimer := some 0,
      setBreaker := { decoded := .closed, settled := .closed, transit := none },
      means := { p := 9000, q := 0, f := 59940, v := 6590, loads := Vector.replicate 8 0 } } }

/-- A GEN-STATE body of an ONLINE set in SHARE. -/
def sharerBody : GenBody :=
  { unit := .online, mode := .share, available := false, uf := false, measBad := false, startOrder := 1, ratedKw := 12000,
    ratedKvar := 9000, capacity := 11400, p := 1000, q := 0, cut := 0 }

/-- A FRESH peer at an address with a body of a set. -/
def peer (a : Address) (b : GenBody) : PeerEntry :=
  { address := a, role := .genset, sect := .a, period := 1, state := .fresh, age := 0, body := .gen b, tripped := false,
    transfer := none, heard := true }

/-- A frame of own period from address 1. -/
def frameOf (b : FrameBody) : Frame := { source := 1, sect := .a, period := 1, body := b }

/-- The answer's state. -/
def after (c : Instr) (s : State) : State :=
  match exec c s with
  | .next t => t
  | .fault _ => s
  | .refused _ => s

/-! ### One step of each family, against the manual's words -/

/-- R157, R177: the record is in range and fits its length. -/
theorem test_record_in_range : record.length = 78 ∧ recordInRange record = true ∧ gensetTieReporter record = false := by
  decide +kernel
/-- R142, R155: a part never written comes up with CONFIG-FAULT set. -/
theorem test_blank_part_faults : State.reset.ctl.endInit.cfgFault = true := by
  have h : recordInRange State.reset.ctl.stored = false := by decide +kernel
  have f : recordFaulty State.reset.ctl.straps State.reset.ctl.stored = true := by simp [recordFaulty, h]
  simpa [Control.endInit, Control.recordFails] using f
/-- 9.6, R162: READ-STATUS in INIT is answered BUSY. -/
theorem test_status_in_init : (after (.readStatus []) State.reset).port.reply = [0x01] := by decide +kernel
/-- R178: READ-IDENT of a genset station of address 2 in section A. -/
theorem test_ident : (after (.readIdent []) (genset .run)).port.reply = [0, 0x46, 0x42, 0x02, 0x20, 0x01, 0x02] := by
  decide +kernel
/-- R67 and 4.4: ef is 10 bp at 59940 mHz, ev is 15 bp at 6590 V, p_own is 7500 bp at 9000 kW. -/
theorem test_errors : online.freqError = 10 ∧ online.voltError = 15 ∧ online.pOwn = 7500 := by decide +kernel
/-- R176: the actuator record of biases −18 bp and 96 bp in force, most significant byte first. -/
theorem test_actuator_bytes : ({ speedBias := -18, voltBias := 96, biasValid := true } : ActuatorRecord).bytes =
    [0xFF, 0xEE, 0x00, 0x60, 0x01] := by decide +kernel
/-- R161, R178: after the reply's last byte the port sends filler. -/
theorem test_filler : (after (.readStatus []) State.reset).port.replyByte 1 = 0xFF := by decide +kernel
/-- R59: an open breaker trips the set, with a TRIP ALERT of its rated kW and its P mean. -/
theorem test_trip : (after (.sampleArrival [1, 0, 0, 0, 0, 0xEA, 0x24, 0x19, 0xBE, 2] SamplePart.all) online).link.alerts =
    [.trip 12000 9000] := by decide +kernel
/-- R147: the eighth expiry brings the station to RUN. -/
theorem test_listen_end :
    (after (.listenEnd ExpiryPart.all)
      { genset .listen with ctl := { (genset .listen).ctl with listenCount := 7 } }).ctl.station = .run := by
  decide +kernel
/-- R29, R148: a fourth transmit error in a row. -/
theorem test_fourth_error :
    (after .transmitError
      { genset .run with link := { (genset .run).link with
          errors := 3, flight := some { isAlert := false, arbitration := 7, levels := [] } } }).ctl.station = .fallback := by
  decide +kernel
/-- A station that has taken a start bit and drives nothing. -/
def receiving (s : State) : State := { s with link := { s.link with receiving := true } }

/-- R35, R150: a frame of the own address silences the station. -/
theorem test_clash :
    (after (.frameReceived (Frame.levels { source := 2, sect := .a, period := 1, body := .alert (.shed 3 .ladder) }) true)
      (receiving (genset .run))).ctl.station = .silent := by
  decide +kernel
/-- R114: a SHED ALERT of a higher rank is adopted; its groups' outputs assert (R98). -/
theorem test_adoption :
    ((after (.frameReceived (frameOf (.alert (.shed 1 .capacity))).levels true)
      (receiving (feeder .run))).shed.groups[0]).state = .shedding := by
  decide +kernel
/-- A feeder whose group 1 is SHEDDING with its confirm timer at a count of microseconds; confirm_time is 200 ms. -/
def confirming (us : Nat) : State :=
  { feeder .run with shed := { (feeder .run).shed with
      groups := (feeder .run).shed.groups.set 1
        { state := .shedding, remembered := 5, output := true, confirm := some us } } }

/-- R101: a group that did not open in time, and one whose output was released and asserted in the instant of the timeout. -/
theorem test_confirm :
    ((after (.confirmTimeout 1) (confirming 200000)).shed.groups[1]).state = .shedFailed ∧
    ((after (.confirmTimeout 1) (confirming 0)).shed.groups[1]).state = .shedding := by decide +kernel
/-- R153: a value above 11000 is clamped and CLAMPED raised. -/
theorem test_stage_clamps :
    (after (.stage [5, 0x7F, 0xFF]) (genset .run)).ctl.staged.baseSetpoint = some 11000 ∧
    (after (.stage [5, 0x7F, 0xFF]) (genset .run)).port.changeWord = 0x8000 := by decide +kernel
/-- R163: STAGE in STANDBY is answered WRONG-STATE. -/
theorem test_stage_in_standby : (after (.stage [5, 0, 0]) (genset .standby)).port.reply = [0x02] := by decide +kernel
/-- R106, 6.11: with cumulative reliefs 1600, 3000 and 4400 and D of 4200 the rank chosen is 3. -/
theorem test_rank_choice :
    chooseRank [⟨1, .connected, 1600⟩, ⟨2, .connected, 1400⟩, ⟨3, .connected, 1400⟩, ⟨4, .connected, 900⟩] 0 4200 15 1 = 3 := by
  decide
/-- R18: twelve recessive bit times with no command make the line IDLE. -/
theorem test_tick_queues_line_idle :
    (idle { State.reset with link := { State.reset.link with recessive := 11 } }).pending = [.lineIdle] := by
  decide +kernel

/-- R80, R81: a genset station sends a record at entry to STANDBY from INIT, after the record of INIT. -/
theorem test_record_at_standby :
    (after .endOfInit State.reset).ls.actuatorSent = 2 ∧
    (after .endOfInit State.reset).ls.actuator = { speedBias := 0, voltBias := 0, biasValid := false } := by
  constructor <;> rfl
/-- R36: a station that comes out of reset while a frame is on the line counts its twelve bit times after that frame. -/
theorem test_frame_passes_in_init :
    let t := after (.frameReceived (frameOf (.alert (.shed 15 .dead))).levels true) State.reset
    t.link.monitor = .busy ∧ t.link.recessive = 0 ∧ t.link.receiving = false := by decide +kernel
/-- R31: a frame begun in STANDBY is not taken in LISTEN, not even where the line became IDLE within its end bits; the frame
after it is. -/
theorem test_frame_begun_before_listen :
    let standby := { genset .standby with link := { (genset .standby).link with monitor := .idle } }
    let old := Instr.frameReceived (frameOf (.gen sharerBody)).levels true
    let t := after old (after .lineIdle (after (.resume []) (after .lineBusy standby)))
    t.ctl.station = .listen ∧ t.view.peers = [] ∧ t.link.monitor = .busy ∧ t.link.recessive = 0 ∧
    (after old (after .lineBusy (after .lineIdle t))).view.peers.length = 1 := by decide +kernel
/-- R18, R29: a start bit read recessive leaves the line IDLE, and the next frame is due at once. -/
theorem test_start_bit_error :
    let s := { online with link := { online.link with monitor := .idle, alerts := [.shed 3 .capacity, .shed 4 .capacity] } }
    let t := after .transmitError (after .frameStart s)
    t.link.monitor = .idle ∧ t.link.receiving = false ∧ t.link.errors = 1 ∧ t.startDue = true := by decide +kernel
/-- R144: at a share period of 20 ms the expiry is due with the microsecond that fills it, and not with the one before. -/
theorem test_share_expiry_due :
    let s := fun (n : Nat) => ({ online with ctl := { online.ctl with shareTimer := some n } } : State)
    (idle (s 19999)).pending = [.shareTimerExpiry (Config.expiryOrder 0)] ∧ (idle (s 19998)).pending = [] := by
  constructor <;> rfl
/-- R18: a bit time after FRAME_START the start bit has been read dominant, and an error leaves the line BUSY. -/
theorem test_later_bit_error :
    let s := { online with link := { online.link with monitor := .idle, alerts := [.shed 3 .capacity] } }
    (after .transmitError (idle (after .frameStart s))).link.monitor = .busy := by decide +kernel
/-- R6: a sample taken first in the instant of the timeout leaves the state GOOD. -/
theorem test_sample_before_timeout :
    (after .measureTimerFault (after (.sampleArrival [1, 0, 0, 0, 0, 0xEA, 0x60, 0x19, 0xBE, 1] SamplePart.all)
      { online with intake := { online.intake with measure := .held, measureTimer := some 40000 } })).intake.measure
      = .good := by decide +kernel
/-- R173: a pulse end left over from before a raise that restarted the pulse. -/
theorem test_restarted_pulse :
    (after .attentionPulseEnd { online with port := { online.port with pulse := some 0, attention := true } }).port.attention
      = true := by decide
/-- R126: a POST row at tag 2147483647 of a record triggered at tag 0, and a row one wrap before its trigger. -/
theorem test_row_offsets :
    rowOffset 0 0 ⟨2147483647, 0, 0, 0, 0, 0, .run, .good⟩ = 32767 ∧
    rowOffset 1 0 ⟨2147483647, 0, 0, 0, 0, 0, .run, .good⟩ = -1 := by decide
/-- R178: a peer entry without a pending transfer sends the most negative code in its two bytes; a transfer of 0 sends 0. -/
theorem test_pending_transfer_bytes : valueBytes none = [0x80, 0x00] ∧ valueBytes (some 0) = [0x00, 0x00] := by
  decide +kernel

/-! ### States that meet the hypotheses of the statements -/

theorem witness_StepRunsFrontCommand : ({ State.reset with pending := [Instr.endOfInit] } : State).pending =
    Instr.endOfInit :: [] := by decide
theorem witness_EmptyQueueAdvancesTimers :
    State.reset.pending = [] ∧ State.reset.ctl.station.active = false ∧
    online.pending = [] ∧ online.ctl.station.active = true ∧ online.ctl.cfg.period = 1 ∧ online.link.flight = none ∧
    online.link.receiving = false ∧ online.cap.tagMicros + 1 < 1000 ∧ online.cap.tag < 2147483647 := by decide +kernel
theorem witness_CommandsLeaveTheQueue : ∃ t, exec .lineBusy online = .next t := ⟨_, rfl⟩
theorem witness_StepKeepsTransmitSet :
    transmitOk online ∧ quietOk online ∧ ∃ t, step { online with pending := [.tripTimeout] } = .next t :=
  ⟨by unfold transmitOk; decide +kernel, by unfold quietOk; decide +kernel, _, rfl⟩
theorem witness_StepKeepsBiasLaw :
    biasOk online ∧ biasRange online ∧ ∃ t, step { online with pending := [.measureTimerFault] } = .next t :=
  ⟨by unfold biasOk; decide +kernel, by unfold biasRange; decide +kernel, _, rfl⟩
theorem witness_StepKeepsGensetOutputs : outputsOk online ∧ ∃ t, step { online with pending := [.endOfInit] } = .next t :=
  ⟨by unfold outputsOk; decide +kernel, _, rfl⟩
theorem witness_StepKeepsShedOutputs :
    shedOk (feeder .run) ∧ ∃ t, step { feeder .run with pending := [.endOfInit] } = .next t :=
  ⟨by unfold shedOk; decide +kernel, _, rfl⟩
theorem witness_StepKeepsCaptureSlots : captureOk online ∧ ∃ t, step online = .next t :=
  ⟨by unfold captureOk; decide +kernel, _, rfl⟩
theorem witness_StepKeepsPeerTable :
    peersOk { online with view := { online.view with peers := [peer 1 sharerBody, peer 3 sharerBody] } } ∧
    ∃ t, step online = .next t :=
  ⟨by unfold peersOk; decide +kernel, _, rfl⟩
theorem witness_StepKeepsTimerLaw : measureOk online ∧ shareTimerOk online ∧ ∃ t, step online = .next t :=
  ⟨by unfold measureOk; decide +kernel, by unfold shareTimerOk; decide +kernel, _, rfl⟩
theorem witness_StepKeepsAttentionLevel : attentionOk online ∧ ∃ t, step online = .next t :=
  ⟨by unfold attentionOk; decide +kernel, _, rfl⟩
theorem witness_StepKeepsIdentity : online.ctl.station ≠ .init ∧ ∃ t, step online = .next t := ⟨by decide, _, rfl⟩

/-- A TRIPPED set with STOP asserted, its breaker open. -/
def tripped : State :=
  { genset .run with ls := { (genset .run).ls with unit := .tripped, stop := true }
                     demand := { (genset .run).demand with lockout := true } }

theorem witness_UnitChangeRaisesUnit :
    ∃ t, exec (.clearTrip []) tripped = .next t ∧ t.ls.unit ≠ tripped.ls.unit :=
  ⟨after (.clearTrip []) tripped, rfl, by decide +kernel⟩
theorem witness_CaptureCounterNeverFalls :
    online.cap.counter ≤ Config.captureCounterMax ∧ ∃ t, exec (.forceCapture []) online = .next t := ⟨by decide, _, rfl⟩

theorem witness_ReceiveReadsSentFrame :
    frameOk (frameOf (.gen sharerBody)) ∧ frameOk (frameOf (.alert (.shed 15 .dead))) ∧
    frameOk (frameOf (.alert (.trip 32000 (-32768)))) := by
  simp [frameOk, frameOf, bodyOk, sharerBody, ratingOk, signed16]

theorem witness_StoredRecordIsTakenAtInit :
    record.length = recordLength ∧ recordInRange record = true ∧ gensetTieReporter record = false ∧
    ({ genset .standby with ctl := { (genset .standby).ctl with store := .writing record } } : State).ctl.store
      = .writing record ∧
    (recordRole record = Role.genset ∧ recordSect record = Sect.a) := by decide +kernel

theorem witness_EndOfInitEntersStandby :
    State.reset.ctl.station = .init ∧ online.ctl.station ≠ .init ∧ State.reset.isGenset = true ∧ biasOk State.reset ∧
    (after (.reset ⟨9, .feeder, .a⟩ .before) State.reset).isFeeder = true ∧
    (after (.reset ⟨9, .feeder, .a⟩ .before) State.reset).ctl.station = .init := by
  unfold biasOk; decide +kernel

/-- A genset sample with breaker contacts given, frequency 60 Hz and voltage 6590 V. -/
def sampleBytes (contacts : Byte) : List Byte := [1, 0, 0, 0, 0, 0xEA, 0x60, 0x19, 0xBE, contacts]

theorem witness_SampleArrivalTakesSample :
    online.ctl.station.active = true ∧ (parseSample online.ctl.straps.role (sampleBytes 1)).isSome = true ∧
    parseSample online.ctl.straps.role [] = none ∧ State.reset.ctl.station.active = false := by decide +kernel
/-- A feeder sample of group loads 0 with the auxiliary bytes given, frequency 60 Hz and a voltage. -/
def panelBytes (volts : Nat) (contacts tie : Byte) : List Byte :=
  [2] ++ List.replicate 16 0 ++ natBytes 2 60000 ++ natBytes 2 volts ++ [0, contacts, tie]

/-- A set in RAMP-OUT with TRIP asserted. -/
def tripping : State := { online with ls := { online.ls with unit := .rampOut, trip := true, tripTimer := some 0 } }

theorem witness_SampleReadsSetBreaker_feeder :
    (feeder .run).ctl.station.active = true ∧ (feeder .run).ctl.straps.role = .feeder ∧
    (feeder .run).groupPresent 0 = true ∧ (feeder .run).groupPresent 7 = false ∧
    (feeder .run).shed.groups[0].state ≠ .absent ∧
    (∀ contacts ∈ [(0 : Byte), 1, 2, 3],
      (parseSample .feeder (panelBytes 6590 contacts contacts)).isSome = true ∧
      (after (.sampleArrival (panelBytes 6590 contacts contacts) []) (feeder .run)).shed.cut = (feeder .run).shed.cut) ∧
    (parseSample .feeder (panelBytes 6590 1 2)).map (fun x => (x.groupAux[0], x.tieAux))
      = some (⟨true, false⟩, ⟨false, true⟩) ∧
    (feeder .run).ctl.cfg.tieReporter = false := by decide +kernel
theorem witness_SampleReadsSetBreaker_settles :
    (∀ u ∈ [UnitState.offline, .starting],
      let s := { genset .run with ls := { (genset .run).ls with unit := u } }
      s.ctl.station.active = true ∧ s.ctl.straps.role = .genset ∧ s.intake.setBreaker.settled ≠ .closed ∧
      s.ctl.station.working = true ∧ s.ls.unit = u) ∧
    tripping.intake.setBreaker.settled ≠ .opened ∧ tripping.ls.unit.onBus = true ∧ tripping.ls.trip = true ∧
    biasOk tripping ∧ tripping.intake.measure ≠ .fault ∧ tripping.ctl.cfg.fUf ≤ 60000 :=
  ⟨by decide +kernel, by decide, by decide, by decide, by unfold biasOk; decide +kernel, by decide, by decide +kernel⟩
theorem witness_SampleReadsSetBreaker :
    online.ctl.station.active = true ∧ online.ctl.straps.role = .genset ∧
    (parseSample .genset (sampleBytes 0)).map Sample.setAux = some ⟨false, false⟩ ∧
    (parseSample .genset (sampleBytes 1)).map Sample.setAux = some ⟨true, false⟩ ∧
    (parseSample .genset (sampleBytes 2)).map Sample.setAux = some ⟨false, true⟩ ∧
    (parseSample .genset (sampleBytes 3)).map Sample.setAux = some ⟨true, true⟩ := by decide +kernel
theorem witness_OpenBreakerTripsSet :
    online.ctl.station.active = true ∧ online.ctl.straps.role = .genset ∧
    (parseSample .genset (sampleBytes 2)).map Sample.setAux = some ⟨false, true⟩ ∧
    online.intake.setBreaker.settled ≠ .opened ∧ online.ls.unit.onBus = true ∧ online.ls.trip = false ∧
    online.intake.measure ≠ .fault ∧ online.ctl.station.transmits = true ∧ online.link.alerts.length < 4 := by
  decide +kernel
theorem witness_MeasureTimerEnds :
    let s := fun (n : Nat) (m : MeasureState) =>
      ({ online with intake := { online.intake with measureTimer := some n, measure := m } } : State)
    (s 15000 .good).intake.measureTimer = some 15000 ∧ (s 15000 .good).intake.measure = .good ∧
    (s 40000 .held).intake.measureTimer = some 40000 ∧ (s 40000 .held).intake.measure ≠ .fault ∧
    (s 14999 .good).intake.measureTimer = some 14999 ∧ 14999 < 15000 ∧
    (s 39999 .held).intake.measureTimer = some 39999 ∧ 39999 < 40000 := by decide

/-- A breaker in TRANSIT with its timer running. -/
def moving : BreakerView := { decoded := .transit, settled := .closed, transit := some 99999 }

theorem witness_TransitTimeoutFaultsBreaker :
    let s := { feeder .run with intake := { (feeder .run).intake with
      setBreaker := moving, groupBreakers := Vector.replicate 8 moving, tieBreaker := moving } }
    s.intake.setBreaker.inTransit = true ∧ s.intake.groupBreakers[0].inTransit = true ∧
    s.intake.groupBreakers[7].inTransit = true ∧ s.intake.tieBreaker.inTransit = true := by decide +kernel
theorem witness_UnderFrequencyNeedsRun :
    1 ≤ (parseSettings record).nUf ∧ (∀ f ∈ [56999, 56000, 1, 0, 56999], (f : Int) < (parseSettings record).fUf) ∧
    [56999, 56000, 1, 0, 56999].length = (parseSettings record).nUf ∧
    (∀ f ∈ [57300, 60000, 65535, 57300, 57301], (parseSettings record).fUf + (parseSettings record).hyst ≤ (f : Int)) ∧
    (∀ v ∈ List.replicate 8 (3959 : Int),
      v < roundDiv ((parseSettings record).vNom * (parseSettings record).vDead) 10000) ∧
    (∀ v ∈ List.replicate 8 (3960 : Int),
      roundDiv ((parseSettings record).vNom * (parseSettings record).vDead) 10000 ≤ v) := by decide +kernel

/-- A feeder after seven samples below V_dead, at a cut rank. -/
def fading (cut : Nat) (st : StationState) : State :=
  { feeder st with intake := { (feeder st).intake with deadCount := 7 }, shed := { (feeder st).shed with cut := cut } }

theorem witness_UnderFrequencyNeedsRun_sample :
    (fading 14 .run).isFeeder = true ∧ (fading 14 .run).ctl.station.active = true ∧ (fading 14 .run).shed.cut < 15 ∧
    15 ≤ (fading 15 .run).shed.cut ∧ (fading 14 .run).ctl.station.transmits = true ∧
    (fading 14 .run).link.alerts.length < 4 ∧ (fading 14 .silent).ctl.station.transmits = false ∧
    (parseSample .feeder (panelBytes 3959 0 0)).isSome = true ∧ (fading 14 .run).intake.dead = false ∧
    (after (.sampleArrival (panelBytes 3959 0 0) []) (fading 14 .run)).intake.dead = true ∧
    (parseSample online.ctl.straps.role (sampleBytes 1)).isSome = true ∧ online.isGenset = true := by decide +kernel
theorem witness_ExpiryClosesPeriodAndAppliesStagedSet :
    online.ctl.station.active = true ∧ State.reset.ctl.station.active = false ∧ online.intake.sums.n = 0 ∧
    1 ≤ ({ online with intake := { online.intake with sums := { online.intake.sums with n := 255 } } } : State).intake.sums.n ∧
    online.ctl.hold = false ∧ ({ online with ctl := { online.ctl with hold := true } } : State).ctl.hold = true ∧
    ({ online with ctl := { online.ctl with staged := { Staged.empty with ks := some 255 } } } : State).ctl.staged.ks
      = some 255 := by decide
theorem witness_ExpiryAgesPeers :
    ({ online with view := { online.view with peers := [peer 1 sharerBody] } } : State).ctl.station.active = true := by decide
theorem witness_NamedExpiriesAreExpiries :
    ExpiryEvent.settled ∈ (expiryRun ExpiryPart.all
      { online with shed := { online.shed with settle := some 9 } }).events := by decide +kernel
theorem witness_ExpiriesThatEnterRun :
    (let s := { genset .listen with
       ctl := { (genset .listen).ctl with listenCount := 7 }
       intake := { (genset .listen).intake with
         setBreaker := { decoded := .closed, settled := .closed, transit := none } } }
     s.ctl.station = .listen ∧ 7 ≤ s.ctl.listenCount ∧ s.isGenset = true ∧ s.ls.unit = .offline ∧
     s.intake.setBreaker.settled = .closed) ∧
    (let s := { genset .fallback with
       ctl := { (genset .fallback).ctl with fallbackCount := 3 }
       link := { (genset .fallback).link with outcome := .success } }
     s.ctl.station = .fallback ∧ 3 ≤ s.ctl.fallbackCount ∧ s.link.outcome = .success ∧ s.view.peers = []) := by
  decide

/-- A STARTING set whose attempt reaches start_timeout at the next expiry. -/
def starting : State :=
  { genset .run with ls := { (genset .run).ls with unit := .starting }
                     demand := { (genset .run).demand with start := true, attempt := some 1499 } }

/-- An ONLINE set in a loaded island of three: its stop condition holds. -/
def stoppable : State :=
  { online with
    ctl := { online.ctl with cfg := { online.ctl.cfg with startOrder := 3 } }
    intake := { online.intake with means := { online.intake.means with p := 1000 } }
    shed := { online.shed with cut := 0 }
    view := { online.view with peers := [peer 1 sharerBody, peer 3 sharerBody] } }

/-- The state before the stop test of `stoppable`'s next expiry. -/
def beforeStopping : State := beforeStop (testPoint { state := atTestPoint stoppable, events := [] }).state

theorem witness_DemandTimersEnd_attempt :
    starting.isGenset = true ∧ starting.ctl.station.working = true ∧ starting.demand.attempt = some 1499 ∧
    starting.ctl.cfg.startTimeout ≤ 1499 + 1 := by decide +kernel
theorem witness_DemandTimersEnd_stop :
    stoppable.isGenset = true ∧ stoppable.ctl.station.active = true ∧
    beforeStopping.ctl.station = .run ∧ beforeStopping.stopDue = true ∧ beforeStopping.rampOutTaken = true ∧
    beforeStopping.ctl.cfg.tun.stopPct ≤ 9000 ∧ 0 ≤ beforeStopping.ownCapacity := by decide +kernel

/-- An OFFLINE set whose engine is READY, in an island with no capacity. -/
def startable : State := { genset .run with intake := { (genset .run).intake with ready := true } }

/-- The state before the start decision of `startable`'s next expiry. -/
def beforeStarting : State := attemptWork (testPoint { state := atTestPoint startable, events := [] }).state

theorem witness_DemandTimersEnd_start :
    startable.isGenset = true ∧ startable.ctl.station.active = true ∧ beforeStarting.ctl.station = .run ∧
    startWanted beforeStarting (startDecision beforeStarting).demand.startNeed ∧ ownChosen beforeStarting ∧
    ¬ ownChosen online := by
  unfold startWanted ownChosen ownAvailable peerAvailable ownKeyLower; decide +kernel
/-- The same with a stop_delay of two periods. -/
def stayingOn : State :=
  { beforeStopping with ctl := { beforeStopping.ctl with cfg := { beforeStopping.ctl.cfg with stopDelay := 2 } } }

theorem witness_DemandTimersEnd_need :
    stopHolds stayingOn ∧ stayingOn.demand.stopNeed + 1 < stayingOn.ctl.cfg.stopDelay ∧ ¬ stopHolds online := by
  refine ⟨⟨?_, ?_, ?_, ?_, ?_, ?_, ?_, ?_⟩, ?_, fun h => absurd h.2.1 ?_⟩ <;> decide +kernel

/-- A feeder with UF set whose step timer reaches step_delay at the next expiry. -/
def laddering (cut : Nat) : State :=
  { feeder .silent with shed := { (feeder .silent).shed with cut := cut, step := some 0, settle := some 9 }
                        intake := { (feeder .silent).intake with uf := true } }

theorem witness_ShedTimersEnd :
    (laddering 0).isFeeder = true ∧ (laddering 0).ctl.station.active = true ∧ (laddering 0).ctl.station = .silent ∧
    (laddering 0).shed.step = some 0 ∧ (laddering 0).ctl.cfg.stepDelay ≤ 0 + 1 ∧ (laddering 0).intake.uf = true ∧
    (laddering 0).shed.cut < 15 ∧ 15 ≤ (laddering 15).shed.cut ∧ (laddering 0).shed.settle = some 9 ∧
    (laddering 0).ctl.cfg.settleDelay ≤ 9 + 1 := by
  decide +kernel

/-- A feeder at cut rank 1 with spare capacity in its island and its frequency high. -/
def restorable : State :=
  { feeder .run with
    shed := { (feeder .run).shed with
      cut := 1
      groups := (feeder .run).shed.groups.set 0 { state := .shed, remembered := 100, output := true, confirm := none } }
    intake := { (feeder .run).intake with means := { (feeder .run).intake.means with f := 60000 } }
    view := { (feeder .run).view with peers := [peer 1 sharerBody] } }

/-- The state at the test point of `restorable`'s next expiry. -/
def beforeRestoring : State := (testPoint { state := atTestPoint restorable, events := [] }).state

theorem witness_RestorationLowersCutRank :
    restorable.ctl.station.active = true ∧
    (ladderWork (capacityWork (restorable.tieChangesTo (atTestPoint restorable))
      (countSettle (rememberLoads beforeRestoring)))).restoreDue = true ∧
    restorable.groupPresent 0 = true ∧ restorable.ctl.cfg.rank[0] = restorable.shed.cut ∧
    restorable.shed.groups[0].output = true ∧ restorable.shed.groups[0].state ≠ .absent := by decide +kernel

theorem witness_ConfirmTimeoutFailsGroup :
    (confirming 200000).shed.groups[1].state = .shedding ∧ (confirming 200000).shed.groups[1].confirm = some 200000 ∧
    1000 * (confirming 200000).ctl.cfg.confirmTime ≤ 200000 ∧ (confirming 199999).shed.groups[1].confirm = some 199999 ∧
    199999 < 1000 * (confirming 199999).ctl.cfg.confirmTime ∧ (confirming 0).shed.groups[0].confirm = none ∧
    (confirming 0).shed.groups[0].state ≠ .shedding := by decide +kernel
theorem witness_RealTimeTimersEnd :
    (let s := { online with ls := { online.ls with unit := .rampOut, trip := true, tripTimer := some 0 } }
     s.ls.trip = true ∧ s.ls.tripTimer ≠ none) ∧
    ({ online with ls := { online.ls with unit := .offline, stop := true, stopTimer := some 0 } } : State).ls.stopTimer
      ≠ none ∧
    online.ctl.station.active = true ∧
    ({ online with port := { online.port with pulse := some 10 } } : State).port.pulse = some 10 ∧
    ({ online with port := { online.port with pulse := some 9 } } : State).port.pulse = some 9 ∧ 9 < 10 := by decide

/-- A genset station in STANDBY with its store operation at hand, the attention line in PULSE mode and STORE-DONE enabled. -/
def pulsing : State :=
  { genset .standby with ctl := { (genset .standby).ctl with
      store := .locking, cfg := { parseSettings record with attentionMode := .pulse, attentionMask := 0x1000 } } }

theorem witness_RealTimeTimersEnd_pulse :
    pulsing.ctl.cfg.attentionMode = .pulse ∧ pulsing.ctl.store ≠ .idle ∧ flagOf pulsing .storeDone = false ∧
    flagSet pulsing.ctl.cfg.attentionMask .storeDone = true ∧ flagSet pulsing.ctl.cfg.attentionMask .clash = false ∧
    flagOf (raise .storeDone pulsing) .storeDone = true := by decide +kernel

/-- A station whose line is IDLE and which drives nothing. -/
def listening (s : State) : State := { s with link := { s.link with monitor := .idle } }

theorem witness_LineMonitorAndDroppedFrames :
    online.link.flight = none ∧ online.link.monitor = .busy ∧ (listening online).link.monitor = .idle ∧
    (listening online).link.receiving = false ∧ (receiving online).link.receiving = true ∧
    (receiving online).link.flight = none ∧ (receiving online).ctl.station.active = true ∧ receive (List.replicate 7 false) = .dropped 0 ∧
    State.reset.ctl.station.active = false ∧ online.link.receiving = false ∧ online.ctl.station.active = true ∧
    frameOk (frameOf (.alert (.shed 3 .ladder))) := by
  refine ⟨?_, ?_, ?_, ?_, ?_, ?_, ?_, ?_, ?_, ?_, ?_, ?_⟩
  case refine_12 => simp [frameOk, frameOf, bodyOk]
  all_goals decide +kernel
theorem witness_LineMonitorAndDroppedFrames_checks :
    let f := frameOf (.alert (.shed 3 .ladder))
    (List.replicate 16 true).length = 16 ∧ List.replicate 16 true ≠ natBits 16 (crc16 f.checked).toNat ∧ 0 < 8 ∧ 7 < 8 ∧
    stuff f.region = (stuff f.region).take 25 ++ (stuff f.region).drop 25 ∧ (stuff f.region).take 25 ≠ [] ∧
    ((stuff f.region).take 25).length + 7 ≤ f.region.length := by decide +kernel
theorem witness_FrameStartSendsAlertFirst :
    (let s := { listening online with link := { (listening online).link with alerts := [.shed 3 .capacity] } }
     s.ctl.station.transmits = true ∧ s.link.monitor = .idle ∧ s.link.flight = none ∧
     s.link.alerts = .shed 3 .capacity :: []) ∧
    (let s := { listening online with link := { (listening online).link with statePending := true } }
     s.ctl.station.transmits = true ∧ s.link.monitor = .idle ∧ s.link.flight = none ∧ s.link.alerts = [] ∧
     s.link.statePending = true) ∧
    (listening online).link.alerts = [] ∧ (listening online).link.statePending = false := by decide
theorem witness_FrameOutcomes :
    let s := fun (n : Nat) (a : Bool) => ({ online with link := { online.link with
      errors := n, flight := some { isAlert := a, arbitration := 7, levels := [] } } } : State)
    (s 3 true).link.flight = some { isAlert := true, arbitration := 7, levels := [] } ∧
    (s 3 false).link.flight = some { isAlert := false, arbitration := 7, levels := [] } ∧
    (s 3 true).link.errors = 3 ∧ (s 3 true).ctl.station = .run ∧ (s 4 false).link.errors ≠ 3 := by decide
theorem witness_OwnFrameIsSuccess :
    let f := frameOf (.alert (.shed 3 .ladder))
    let s := { online with link := { online.link with
      receiving := true, flight := some { isAlert := true, arbitration := 7, levels := f.levels } } }
    frameOk f ∧ s.ctl.station.active = true ∧ s.link.receiving = true ∧
    s.link.flight = some { isAlert := true, arbitration := 7, levels := f.levels } := by
  simp [frameOk, frameOf, bodyOk, online, genset, StationState.active]
theorem witness_AddressClashSilences :
    let f := { frameOf (.alert (.shed 3 .ladder)) with source := 2 }
    frameOk f ∧ (∀ st ∈ [StationState.listen, .run, .fallback, .silent],
      f.source = (receiving (genset st)).ctl.straps.address ∧ (receiving (genset st)).link.receiving = true ∧
      (receiving (genset st)).link.flight = none ∧ (receiving (genset st)).ctl.station = st) :=
  ⟨by simp [frameOk, frameOf, bodyOk], by decide⟩
/-- A station that holds a peer at address 1 and has taken the start bit of a frame. -/
def hearing : State :=
  { receiving online with view := { online.view with peers := [peer 1 sharerBody] } }
/-- A FEED-STATE body with no group present. -/
def panelBody : FeedBody :=
  { uf := false, measBad := false, dead := false, tieReporter := true, tieClosed := true, cut := 15,
    groups := Vector.replicate 8 { rank := 0, state := .absent, load := 0 } }
theorem witness_StateFrameFillsPeerEntry :
    (∀ b ∈ [FrameBody.gen sharerBody, .feed panelBody],
      (frameOf b).source ≠ hearing.ctl.straps.address ∧ (frameOf b).period = hearing.ctl.cfg.period) ∧
    hearing.ctl.station.active = true ∧ hearing.link.receiving = true ∧ hearing.link.flight = none ∧ peersOk hearing ∧
    frameOk (frameOf (.gen sharerBody)) ∧ frameOk (frameOf (.feed panelBody)) ∧
    (∀ e0, findPeer hearing.view.peers 1 = some e0 → e0.role ≠ .feeder) :=
  ⟨by decide +kernel, by decide, by decide, by decide, by unfold peersOk; decide +kernel,
   by simp [frameOk, frameOf, bodyOk, sharerBody, ratingOk, signed16],
   by simp [frameOk, frameOf, bodyOk, panelBody],
   by intro e0 h; have : e0 = peer 1 sharerBody := by simpa [hearing, findPeer, peer] using h.symm
      subst this; decide⟩
/-- A station that holds a FEEDER at address 1. -/
def hearingFeeder : State :=
  { hearing with view := { hearing.view with peers := [{ peer 1 sharerBody with role := .feeder, body := .feed panelBody }] } }
theorem witness_OtherPeriodMakesIncompatible :
    let f := { frameOf (.gen sharerBody) with period := 2 }
    frameOk f ∧ (∀ s ∈ [hearing, hearingFeeder], f.source ≠ s.ctl.straps.address ∧ f.period ≠ s.ctl.cfg.period ∧
      s.ctl.station.active = true ∧ s.link.receiving = true ∧ s.link.flight = none) ∧
    peersOk hearing ∧ peersOk hearingFeeder ∧
    (findPeer hearing.view.peers f.source).map PeerEntry.role = some .genset ∧
    (findPeer hearing.view.peers f.source).map PeerEntry.state = some .fresh ∧
    (findPeer hearingFeeder.view.peers f.source).map PeerEntry.role = some .feeder :=
  ⟨by simp [frameOk, frameOf, bodyOk, sharerBody, ratingOk, signed16], by decide +kernel, by unfold peersOk; decide +kernel,
   by unfold peersOk; decide +kernel, by decide, by decide, by decide⟩
theorem witness_TripAlertIsTaken :
    let f := frameOf (.alert (.trip 12000 (-32768)))
    frameOk f ∧ f.body = .alert (.trip 12000 (-32768)) ∧ f.source ≠ hearing.ctl.straps.address ∧
    f.period = hearing.ctl.cfg.period ∧ hearing.ctl.station.active = true ∧ hearing.link.receiving = true ∧
    hearing.link.flight = none ∧ peersOk hearing :=
  ⟨by simp [frameOk, frameOf, bodyOk, ratingOk, signed16], rfl, by decide, by decide +kernel, by decide, by decide,
   by decide, by unfold peersOk; decide +kernel⟩
theorem witness_ShedAlertIsAdopted :
    let f := frameOf (.alert (.shed 1 .capacity))
    let s := receiving (feeder .run)
    frameOk f ∧ f.source ≠ s.ctl.straps.address ∧ f.period = s.ctl.cfg.period ∧ s.ctl.station.active = true ∧
    s.link.receiving = true ∧ s.link.flight = none ∧ s.ctl.station.working = true ∧ s.inIsland f.sect = true ∧
    s.shed.cut < 1 ∧ s.groupPresent 0 = true ∧ s.shed.groups[0].state ≠ .absent ∧ s.ctl.cfg.rank[0] = 1 ∧
    s.inIsland .b = false ∧ (receiving (feeder .listen)).ctl.station.working = false :=
  ⟨by simp [frameOk, frameOf, bodyOk], by decide, by decide +kernel, by decide, by decide, by decide, by decide, by decide,
   by decide, by decide +kernel, by decide +kernel, by decide +kernel, by decide, by decide⟩
theorem witness_OnlineBiasUpdate :
    let s := { online with view := { online.view with sums := { online.view.sums with pAvg := some 7250, qAvg := some 0 } } }
    s.isGenset = true ∧ s.ctl.station.working = true ∧ s.ls.unit = .online ∧ s.ls.biasValid = true ∧
    s.ctl.cfg.tun.mode = .share ∧ s.view.sums.d ≤ 0 ∧ s.view.sums.pAvg = some 7250 ∧ s.view.sums.qAvg = some 0 ∧
    0 ≤ s.ctl.cfg.biasLimit ∧ 0 ≤ s.ctl.cfg.vBiasLimit := by decide +kernel
/-- A set under bias in a unit state with a ramp counter, an island deficit and an average for the sharers. -/
def sharing (u : UnitState) (k : Nat) (d : Int) (a : Option Int) : State :=
  { online with
    ls := { online.ls with unit := u, k := k, p0 := some 5000 }
    view := { online.view with sums := { online.view.sums with d := d, pAvg := a, qAvg := a } } }

theorem witness_OnlineBiasUpdate_ramps :
    (∀ k ∈ [0, 98, 99, 199, 200], ∀ d ∈ [(0 : Int), 1], ∀ a ∈ [none, some (7250 : Int)],
      ∀ u ∈ [UnitState.rampIn, .online, .rampOut],
      let s := sharing u k d a
      s.isGenset = true ∧ s.ctl.station.working = true ∧ 0 ≤ s.ctl.cfg.biasLimit ∧ 0 ≤ s.ctl.cfg.vBiasLimit ∧
      s.ls.unit = u ∧ s.ls.biasValid = true ∧ s.ctl.cfg.tun.mode = .share ∧ s.view.sums.pAvg = a ∧ s.view.sums.d = d ∧
      s.ls.trip = false ∧ s.ls.tripFailed = false ∧ s.ls.p0 = some 5000 ∧ s.ls.k = k) ∧
    online.ctl.cfg.nIn = 100 ∧ online.ctl.cfg.nOut = 100 ∧
    ({ sharing .rampOut 200 0 none with ls := { (sharing .rampOut 200 0 none).ls with tripFailed := true } }
      : State).ls.tripFailed = true ∧
    tripping.view.sums.d ≤ 0 ∧ tripping.ls.trip = true ∧ tripping.ls.tripFailed = false ∧
    (let s := { online with ctl := { online.ctl with
       cfg := { online.ctl.cfg with tun := { online.ctl.cfg.tun with mode := .base } } } }
     s.ls.biasValid = true ∧ s.ctl.cfg.tun.mode = .base ∧ s.ls.unit.onBus = true ∧ s.view.sums.d ≤ 0) := by
  decide +kernel
theorem witness_CapacityRuleTakesLeastRank :
    0 < ({ feeder .run with view := { (feeder .run).view with sums := { (feeder .run).view.sums with d := 1 } } }
      : State).effectiveDeficit ∧ (feeder .run).shed.cut < 15 ∧ (feeder .run).effectiveDeficit ≤ 0 := by decide +kernel
theorem witness_IslandSumsBalance :
    State.reset.islandSets = [] ∧ (formSums State.reset).view.sums.c < 1 ∧ 1 ≤ (formSums stoppable).view.sums.c ∧
    stoppable.islandSets.length = 2 := by decide +kernel
theorem witness_PortJudgesInOrder :
    noRestart State.reset ∧ State.reset.ctl.station = .init ∧ noRestart online ∧ online.ctl.station ≠ .init ∧
    commandCode 0x13 = false ∧ commandCode 0 = false ∧ [(0 : Byte)].length ≠ 0 ∧ [(0 : Byte)].length ≠ 2 ∧
    [(0 : Byte)].length ≠ 78 ∧ [(0 : Byte)].length ≠ 3 := by
  unfold noRestart; decide
theorem witness_ResetSetsEveryBlock :
    ({ online with port := { online.port with phase := .replying .restart } } : State).port.phase = .replying .restart := rfl
theorem witness_ReadCommandsReply :
    noRestart hearing ∧ hearing.ctl.station ≠ .init ∧ hearing.view.peers.length ≤ 255 ∧
    hearing.view.peers[0]? = some (peer 1 sharerBody) ∧ (peer 1 sharerBody).period ≤ 255 ∧
    (peer 1 sharerBody).age ≤ 255 ∧ (peer 1 sharerBody).transfer = none ∧
    ({ peer 1 sharerBody with transfer := some (-32768) } : PeerEntry).transfer = some (-32768) ∧ signed16 (-32768) ∧
    online.isGenset = true ∧ (confirming 65535999).isFeeder = true ∧ (feeder .run).ctl.cfg.rank[0] ≤ 255 ∧
    signed16 (feeder .run).shed.groups[0].remembered ∧ signed16 (feeder .run).intake.means.loads[0] ∧
    (feeder .run).shed.groups[0].confirm = none ∧ (confirming 65535999).shed.groups[1].confirm = some 65535999 ∧
    65535999 / 1000 ≤ 65535 := by
  unfold noRestart signed16; decide +kernel
theorem witness_AckChangesClearsByMask :
    (let s := { online with ctl := { online.ctl with cfg := { online.ctl.cfg with ackMode := .writeBack } } }
     noRestart s ∧ s.ctl.station ≠ .init ∧ s.ctl.cfg.ackMode = .writeBack) ∧
    BitVec.getLsbD ((0x00 : Byte) ++ (0x01 : Byte)) ChangeFlag.breaker.bitIndex = true ∧
    BitVec.getLsbD ((0x80 : Byte) ++ (0x00 : Byte)) ChangeFlag.clamped.bitIndex = true := by
  unfold noRestart; decide +kernel
theorem witness_StagingCommands :
    noRestart online ∧ online.ctl.station.active = true ∧ noRestart (genset .standby) ∧
    (genset .standby).ctl.station = .standby ∧ 10 ≤ (10 : Byte).toNat := by
  unfold noRestart; decide
theorem witness_ResumeEntersListen :
    noRestart (genset .standby) ∧ (genset .standby).ctl.station = .standby ∧ (genset .standby).ctl.store = .idle ∧
    (genset .standby).ctl.cfgFault = false ∧ (genset .standby).cap.activeSlot = none ∧
    (genset .standby).cap.freeSlot = some 0 ∧ (genset .standby).ctl.cfg.tun.captureArmed = true := by
  unfold noRestart; decide +kernel
theorem witness_RestartResetsAfterItsReply :
    noRestart online ∧ online.ctl.station ≠ .init ∧ online.ctl.store = .idle ∧
    noRestart State.reset ∧ State.reset.ctl.station = .init ∧
    (let s := { genset .standby with ctl := { (genset .standby).ctl with store := .locking } }
     noRestart s ∧ s.ctl.store ≠ .idle) := by
  unfold noRestart; decide
theorem witness_WriteEnableLatch :
    noRestart State.reset ∧ State.reset.ctl.station = .init ∧
    noRestart online ∧ online.ctl.station.active = true ∧ online.ctl.store = .idle ∧
    noRestart (genset .standby) ∧ (genset .standby).ctl.station = .standby ∧ (genset .standby).ctl.store = .idle ∧
    (genset .standby).ctl.cfgFault = false ∧
    ({ genset .standby with ctl := { (genset .standby).ctl with store := .locking } } : State).ctl.store ≠ .idle ∧
    ({ online with port := { online.port with phase := .replying .restart } } : State).port.phase = .replying .restart := by
  unfold noRestart; decide
theorem witness_StoreCommandsInOrder :
    noRestart (genset .standby) ∧ (genset .standby).ctl.station ≠ .init ∧ record.length = 78 := by
  unfold noRestart; decide +kernel
/-- A LOCK-CONFIG of the stored record is not refused for the record. -/
theorem witness_StoreCommandsInOrder_lock :
    recordCrcOk (genset .standby).ctl.stored = true ∧ recordInRange (genset .standby).ctl.stored = true :=
  ⟨by
    have h : record.length = recordLength := by decide +kernel
    have b : (crcBytes record).length = 2 := by simp [crcBytes, natBytes]
    simp [genset, recordCrcOk, ← h, b]
    decide, by decide +kernel⟩
theorem witness_StatusReadReportsAndClears :
    noRestart online ∧ online.ctl.station ≠ .init ∧ online.ctl.cfg.ackMode = .readClear ∧
    ({ online with port := { online.port with phase := .replying .status } } : State).port.phase = .replying .status ∧
    online.isGenset = true ∧ (feeder .run).isFeeder = true ∧ online.shed.cut ≤ 255 ∧ signed32 online.view.sums.c ∧
    signed32 online.view.sums.l ∧ signed32 online.view.sums.d ∧ online.view.sums.lf = none ∧
    online.view.sums.pAvg = none ∧ (sharing .online 0 0 (some 7250)).view.sums.pAvg = some 7250 ∧ signed16 7250 ∧
    (formSums online).view.sums.lf = some 7895 ∧ online.view.peers.length ≤ 255 ∧ online.link.errors ≤ 255 ∧
    online.cap.counter ≤ 4294967295 ∧ online.cap.tag ≤ 2147483647 := by
  unfold noRestart signed32 signed16; decide +kernel
theorem witness_ClearTripReleasesSet :
    noRestart tripped ∧ tripped.ctl.station ≠ .init ∧ tripped.isGenset = true ∧ tripped.ls.unit = .tripped ∧
    tripped.ctl.station.working = true ∧ noRestart online ∧ online.ls.unit ≠ .tripped ∧ noRestart (feeder .run) ∧
    (feeder .run).ctl.station ≠ .init ∧ (feeder .run).isFeeder = true := by
  unfold noRestart; decide

/-- A row with nothing in it. -/
def emptyRow : RawRow := { tag := 0, wraps := 0, power := 0, f := 0, v := 0, cut := 0, station := .run, measure := .good }

/-- A full ring in slot 0. -/
def armed : State :=
  { online with cap := online.cap.setSlot 0 (.armed [emptyRow, emptyRow]) }

theorem witness_ForceCaptureOffersTrigger :
    noRestart armed ∧ armed.ctl.station ≠ .init ∧
    armed.ctl.cfg.triggerMask.getLsbD 3 = true ∧ armed.ctl.station.working = true ∧
    armed.ctl.cfg.tun.captureArmed = true ∧ armed.cap.activeSlot = some 0 ∧
    armed.cap.slots[0] = .armed [emptyRow, emptyRow] ∧ armed.ctl.cfg.pre ≤ [emptyRow, emptyRow].length ∧
    noRestart (genset .standby) ∧ (genset .standby).ctl.station = .standby ∧
    (genset .standby).ctl.cfg.triggerMask.getLsbD 3 = true := by
  unfold noRestart; decide +kernel

/-- A POST slot 3. -/
def posting : State :=
  { online with cap := online.cap.setSlot 3 (.post (openRecord .forced [emptyRow] 1 online)) }

/-- The station with capture armed, a number of pre-trigger rows asked, the overlap choice given and eight slots. -/
def capturing (pre : Nat) (overlap : Bool) (slots : Vector Slot 8) : State :=
  { online with
    ctl := { online.ctl with cfg := { online.ctl.cfg with pre := pre, overlapAccept := overlap } }
    cap := { online.cap with slots := slots } }

/-- A record with a number of post-trigger rows. -/
def longRecord (rows : Nat) : Record :=
  { openRecord .forced [] 1 online with post := List.replicate rows { offset := 0, raw := emptyRow } }

theorem witness_ForceCaptureOffersTrigger_refusals :
    (∀ s ∈ [capturing 3 true (Vector.replicate 8 (.ready (longRecord 1))),
            capturing 3 true ((Vector.replicate 8 .free).set 0 (.armed [emptyRow, emptyRow])),
            capturing 3 false ((Vector.replicate 8 .free).set 3 (.post (longRecord 1))),
            capturing 3 true ((Vector.replicate 8 .free).set 3 (.post (longRecord 1))),
            capturing 3 true ((Vector.replicate 8 (.ready (longRecord 1))).set 3 (.post (longRecord 1)))],
      s.port.phase ≠ .replying .restart ∧ s.ctl.station ≠ .init ∧ s.ctl.cfg.triggerMask.getLsbD 3 = true ∧
      s.ctl.station.working = true ∧ s.ctl.cfg.tun.captureArmed = true) ∧
    (∀ i : SlotNo, isReady (capturing 3 true (Vector.replicate 8 (.ready (longRecord 1)))).cap.slots[i] = true) ∧
    (capturing 3 true ((Vector.replicate 8 .free).set 0 (.armed [emptyRow, emptyRow]))).cap.activeSlot = some 0 ∧
    (capturing 3 true ((Vector.replicate 8 .free).set 3 (.post (longRecord 1)))).cap.activeSlot = some 3 ∧
    (∀ j : SlotNo, (capturing 3 true ((Vector.replicate 8 (.ready (longRecord 1))).set 3
      (.post (longRecord 1)))).cap.slots[j] ≠ .free) ∧
    (capturing 3 true ((Vector.replicate 8 .free).set 3 (.post (longRecord 1)))).cap.slots[(0 : SlotNo)] = .free := by
  decide +kernel
theorem witness_ForceCaptureOffersTrigger_rows :
    posting.cap.activeSlot = some 3 ∧ (longRecord 254).pre.length + (longRecord 254).post.length + 1 < 256 ∧
    256 ≤ (longRecord 255).pre.length + (longRecord 255).post.length + 1 ∧ armed.cap.activeSlot = some 0 ∧
    (let s := { online with ctl := { online.ctl with cfg := { online.ctl.cfg with triggerMask := 0 } } }
     s.ctl.station.active = true ∧ (parseSample s.ctl.straps.role (sampleBytes 1)).isSome = true ∧
     s.ctl.cfg.triggerMask = 0 ∧ s.isGenset = true) ∧ (feeder .run).isFeeder = true := by
  simp only [longRecord, List.length_replicate]; decide +kernel

theorem witness_EnterStandbyTakesStandbyValues :
    noRestart online ∧ online.ctl.station.active = true ∧ online.cap.activeSlot = none ∧ online.intake.ready = false ∧
    noRestart armed ∧ armed.ctl.station.active = true ∧ armed.cap.activeSlot = some 0 ∧
    armed.cap.slots[0] = .armed [emptyRow, emptyRow] ∧
    noRestart posting ∧ posting.ctl.station.active = true ∧ posting.cap.activeSlot = some 3 ∧
    posting.cap.slots[3] = .post (openRecord .forced [emptyRow] 1 online) ∧
    noRestart (genset .standby) ∧ (genset .standby).ctl.station = .standby := by
  unfold noRestart; decide +kernel

/-- A READY record being read out of slot 2. -/
def reading : State :=
  { online with
    cap := { online.cap.setSlot 2 (.ready (openRecord .forced [emptyRow] 1 online)) with readyList := [2] }
    port := { online.port with phase := .replying .readout } }

theorem witness_ReadoutFreesHeadSlot :
    noRestart reading ∧ reading.ctl.station ≠ .init ∧ reading.port.phase = .replying .readout ∧
    reading.cap.readyList = [2] ∧ reading.cap.slots[2] = .ready (openRecord .forced [emptyRow] 1 online) ∧
    online.cap.readyList = [] ∧
    reading.ctl.cfg.tun.captureArmed = true ∧ reading.ctl.station.active = true ∧
    (∀ j : SlotNo, j ≠ 2 → reading.cap.slots[j].active = false) ∧
    (let s := { reading with cap := reading.cap.setSlot 0 (.armed []) }
     s.port.phase = .replying .readout ∧ s.cap.readyList = [2] ∧ ∃ j : SlotNo, j ≠ 2 ∧ s.cap.slots[j].active = true) := by
  unfold noRestart; decide +kernel

end Tests
end Sys2Proof
end

/-! Proofs. What a hand-off of a sample can do beside the breakers' own news: flags stay set, the cut rank only rises, a ramp-out is
abandoned at most. -/

namespace Sys2Proof
namespace Machine

open Safety

/-! ### Flags -/

/-- A raise sets its flag and leaves the others (R169). -/
@[simp] theorem flagOf_raise (f g : ChangeFlag) (s : State) : flagOf (raise f s) g = (flagOf s g || decide (f = g)) :=
  flagSet_raise f g s

/-- A conditional raise sets its flag exactly under its condition (R169). -/
@[simp] theorem flagOf_raiseIf (c : Bool) (f g : ChangeFlag) (s : State) :
    flagOf (raiseIf c f s) g = (flagOf s g || (c && decide (f = g))) := by
  cases c <;> simp [raiseIf]

/-- The change word alone says which flags stand set. -/
theorem flagOf_congr {s t : State} (h : t.port = s.port) (f : ChangeFlag) : flagOf t f = flagOf s f := by
  simp only [flagOf, h]

/-- Every flag that stands set in `s` stands set in `t`. -/
def FlagsKept (s t : State) : Prop := ∀ f, flagOf s f = true → flagOf t f = true

theorem FlagsKept.refl (s : State) : FlagsKept s s := fun _ h => h

theorem FlagsKept.trans {s t u : State} (h : FlagsKept s t) (k : FlagsKept t u) : FlagsKept s u :=
  fun f hf => k f (h f hf)

theorem FlagsKept.of_port {s t : State} (h : t.port = s.port) : FlagsKept s t :=
  fun f hf => by rw [flagOf_congr h, hf]

theorem flagsKept_setIntake (x : Intake) (s : State) : FlagsKept s (s.setIntake x) := .of_port rfl
theorem flagsKept_setLs (x : LoadShare) (s : State) : FlagsKept s (s.setLs x) := .of_port rfl
theorem flagsKept_setDemand (x : Demand) (s : State) : FlagsKept s (s.setDemand x) := .of_port rfl
theorem flagsKept_setShed (x : Shed) (s : State) : FlagsKept s (s.setShed x) := .of_port rfl

theorem flagsKept_raise (f : ChangeFlag) (s : State) : FlagsKept s (raise f s) := fun g hg => by simp [hg]

theorem flagsKept_raiseIf (c : Bool) (f : ChangeFlag) (s : State) : FlagsKept s (raiseIf c f s) :=
  fun g hg => by simp [hg]

/-! ### What a hand-off can do beside the breakers' own news -/

/-- What the operations that a hand-off ends in can do to flags, peers, the load-share unit and the cut rank: flags stay set, the
peer table stands, BIAS-VALID stands, a unit that is not in RAMP-OUT is left alone (R78), and the cut rank, the groups and the
settle timer stand or the cut rank has risen with the settle timer started and SHED-STEP raised (R104). -/
structure Follows (s t : State) : Prop where
  flags : FlagsKept s t
  peers : t.view.peers = s.view.peers
  bias : t.ls.biasValid = s.ls.biasValid
  unit : s.ls.unit ≠ .rampOut → t.ls = s.ls
  cut : (t.shed.cut = s.shed.cut ∧ t.shed.groups = s.shed.groups ∧ t.shed.settle = s.shed.settle) ∨
    (s.shed.cut < t.shed.cut ∧ t.shed.cut ≤ 15 ∧ t.shed.settle = some 0 ∧ flagOf t .shedStep = true)

theorem Follows.refl (s : State) : Follows s s := ⟨.refl s, rfl, rfl, fun _ => rfl, .inl ⟨rfl, rfl, rfl⟩⟩

theorem Follows.trans {s t u : State} (h : Follows s t) (k : Follows t u) : Follows s u where
  flags := h.flags.trans k.flags
  peers := k.peers.trans h.peers
  bias := k.bias.trans h.bias
  unit hu := (k.unit (by rw [h.unit hu]; exact hu)).trans (h.unit hu)
  cut := by
    rcases h.cut with ⟨hc, hg, ht⟩ | ⟨hc, hle, ht, hf⟩ <;> rcases k.cut with ⟨kc, kg, kt⟩ | ⟨kc, kle, kt, kf⟩
    · exact .inl ⟨kc.trans hc, kg.trans hg, kt.trans ht⟩
    · exact .inr ⟨hc ▸ kc, kle, kt, kf⟩
    · exact .inr ⟨kc ▸ hc, kc ▸ hle, kt.trans ht, k.flags _ hf⟩
    · exact .inr ⟨hc.trans kc, kle, kt, kf⟩

/-- An operation that leaves the load-share unit, the peers and the cut rank alone follows when it keeps the flags. -/
theorem Follows.of_flags {s t : State} (flags : FlagsKept s t) (peers : t.view.peers = s.view.peers)
    (ls : t.ls = s.ls) (cut : t.shed.cut = s.shed.cut)
    (groups : t.shed.groups = s.shed.groups) (settle : t.shed.settle = s.shed.settle) : Follows s t :=
  ⟨flags, peers, by rw [ls], fun _ => ls, .inl ⟨cut, groups, settle⟩⟩

/-- An operation that leaves the port, the load-share unit, the peers and the cut rank alone follows. -/
theorem Follows.of_port {s t : State} (port : t.port = s.port) (peers : t.view.peers = s.view.peers) (ls : t.ls = s.ls)
    (cut : t.shed.cut = s.shed.cut) (groups : t.shed.groups = s.shed.groups) (settle : t.shed.settle = s.shed.settle) :
    Follows s t :=
  .of_flags (.of_port port) peers ls cut groups settle

/-- A conditional operation follows when it does under its condition. -/
theorem Follows.ite {s t : State} {c : Prop} [Decidable c] (h : c → Follows s t) : Follows s (if c then t else s) := by
  split
  · next hc => exact h hc
  · exact .refl s

theorem follows_raise (f : ChangeFlag) (s : State) : Follows s (raise f s) :=
  .of_flags (flagsKept_raise f s) rfl rfl rfl rfl rfl

theorem follows_raiseIf (c : Bool) (f : ChangeFlag) (s : State) : Follows s (raiseIf c f s) :=
  .ite fun _ => follows_raise f s

theorem follows_queueAlert (a : Alert) (s : State) : Follows s (queueAlert a s) := by
  rcases queueAlert_cases a s with ⟨_, _, e⟩ | ⟨_, _, e⟩ | ⟨_, e⟩ <;> rw [e]
  · exact .of_port rfl rfl rfl rfl rfl rfl
  · exact follows_raise _ s
  · exact .refl s

theorem follows_abandonRampOut (s : State) : Follows s (abandonRampOut s) := by
  refine ⟨fun f hf => ?_, by simp, (abandonRampOut_bias s).1, fun hu => by simp [abandonRampOut, hu], .inl (by simp)⟩
  by_cases hu : s.ls.unit = .rampOut
  · simp only [abandonRampOut, hu, if_true, flagOf_raise]
    simp [flagOf_congr (State.setLs_port s _), hf]
  · simpa [abandonRampOut, hu] using hf

/-- Whether or not a ramp-out in progress is abandoned. -/
theorem follows_abandonIf (c : Bool) (s : State) : Follows s (if c then abandonRampOut s else s) :=
  .ite fun _ => follows_abandonRampOut s

theorem follows_armSlot (s : State) : Follows s (armSlot s) := by
  apply Follows.of_port <;> simp

theorem follows_setCap (x : Capture) (s : State) : Follows s (s.setCap x) := .of_port rfl rfl rfl rfl rfl rfl

theorem follows_offerTrigger (cause : TriggerCause) (s : State) : Follows s (offerTrigger cause s) := by
  unfold offerTrigger
  exact ((follows_setCap _ s).trans (follows_raiseIf _ _ _)).trans (follows_raiseIf _ _ _)

theorem follows_writeRow (r : RawRow) (s : State) : Follows s (writeRow r s) := by
  unfold writeRow
  split
  · exact .refl s
  · split
    · exact .refl s
    · exact .refl s
    · exact follows_setCap _ s
    · split
      · exact (follows_setCap _ s).trans ((follows_raise _ _).trans (follows_armSlot _))
      · exact follows_setCap _ s

/-- An increase of the cut rank to a rank above it follows (R104). -/
theorem follows_increaseCut (cut : Nat) (cause : Option ShedCause) (s : State) (hlt : s.shed.cut < cut) (hle : cut ≤ 15) :
    Follows s (increaseCut cut cause s) := by
  have raised : Follows s (raise .shedStep (s.setShed (s.shedRaised cut))) :=
    ⟨fun f hf => by rw [flagOf_raise, flagOf_congr (State.setShed_port s _), hf, Bool.true_or], rfl, rfl, fun _ => rfl,
      .inr ⟨hlt, hle, rfl, by simp⟩⟩
  have offered := raised.trans (follows_offerTrigger .shedStep _)
  have abandoned := offered.trans (follows_abandonIf (s.isGenset) _)
  have genset : (offerTrigger .shedStep (raise .shedStep (s.setShed (s.shedRaised cut)))).isGenset = s.isGenset := by
    simp [State.isGenset]
  unfold increaseCut
  cases cause with
  | none => simpa only [genset] using abandoned
  | some c => simpa only [genset] using abandoned.trans (follows_queueAlert (.shed cut c) _)

/-- The rank that the capacity rule chooses is above the cut rank and at most 15 (R106). -/
theorem ruleRank_bounds (s : State) (h : s.shed.cut < 15) : s.shed.cut < s.ruleRank ∧ s.ruleRank ≤ 15 := by
  rcases chooseRank_spec s.view.sums.groups s.shed.cut s.effectiveDeficit (15 - s.shed.cut) (s.shed.cut + 1) with
    ⟨x, hx, hlo, hhi, _⟩ | ⟨h15, _⟩
  · rw [State.ruleRank, hx]; omega
  · rw [State.ruleRank, h15]; omega

theorem follows_evaluateCapacity (s : State) : Follows s (evaluateCapacity s) :=
  .ite fun h => follows_increaseCut _ _ s (ruleRank_bounds s h.2).1 (ruleRank_bounds s h.2).2

theorem follows_evaluateInRun (s : State) : Follows s (evaluateInRun s) := .ite fun _ => follows_evaluateCapacity s

theorem follows_deficitAbandons (s : State) : Follows s (deficitAbandons s) := .ite fun _ => follows_abandonRampOut s

theorem follows_deriveTieNow (s : State) : Follows s (deriveTieNow s) := by
  unfold deriveTieNow
  split
  · exact .refl s
  · have formed : Follows s (formSums (s.setView { s.view with tieClosed := s.derivedTie })) :=
      .of_port rfl rfl rfl rfl rfl rfl
    have zeroed (t : State) : Follows t (zeroRestore t) := .of_port rfl rfl rfl rfl rfl rfl
    exact formed.trans ((follows_deficitAbandons _).trans ((zeroed _).trans (follows_evaluateInRun _)))

theorem follows_ladderTest (s : State) : Follows s (ladderTest s) :=
  .ite fun h => follows_increaseCut _ _ s (Nat.lt_succ_self _) (by simp [State.ladderHolds] at h; omega)

theorem follows_deadEntry (s : State) : Follows s (deadEntry s) :=
  .ite fun h => follows_increaseCut _ _ s h.2.2 (Nat.le_refl _)

theorem follows_handUfSet (s : State) : Follows s (handUfSet s) := by
  unfold handUfSet
  split
  · exact (follows_ladderTest s).trans (.of_port rfl rfl rfl rfl rfl rfl)
  · exact follows_abandonRampOut s

/-- Every hand-off of a sample but that of the breakers follows (R3). -/
theorem follows_handPart (n : SampleNews) (part : SamplePart) (s : State) (h : part ≠ .breakers) :
    Follows s (handPart n part s) := by
  cases part with
  | breakers => exact absurd rfl h
  | tie => exact (follows_raiseIf _ _ s).trans (.ite fun _ => follows_deriveTieNow _)
  | ufShed => exact .ite fun _ => follows_handUfSet s
  | ufTrigger => exact .ite fun _ => follows_offerTrigger _ s
  | dead => exact .ite fun _ => follows_deadEntry s
  | row => exact follows_writeRow _ s

end Machine
end Sys2Proof

/-! Proofs. Orders given as lists, BIAS-VALID, breaker settles, and one accepted sample in any order of its hand-offs (chapter 1). -/

namespace Sys2Proof
namespace Machine

open Safety

/-! ### Orders given as lists (log entry 7) -/

section Orders

variable {α : Type} [DecidableEq α]

theorem mem_firstsOf (x : α) (l : List α) : ∀ seen, x ∈ firstsOf seen l ↔ x ∈ l ∧ x ∉ seen := by
  induction l with
  | nil => simp [firstsOf]
  | cons y rest ih =>
    intro seen
    by_cases hy : y ∈ seen
    · have : x = y → x ∈ seen := fun h => h ▸ hy
      simp only [firstsOf, hy, if_true, ih, List.mem_cons]; tauto
    · have : x = y → x ∉ seen := fun h => h ▸ hy
      simp only [firstsOf, hy, if_false, ih, List.mem_cons]; tauto

theorem nodup_firstsOf (l : List α) : ∀ seen, (firstsOf seen l).Nodup := by
  induction l with
  | nil => simp [firstsOf]
  | cons y rest ih =>
    intro seen
    by_cases hy : y ∈ seen
    · simp [firstsOf, hy, ih]
    · simp [firstsOf, hy, ih, mem_firstsOf]

/-- An order of all the parts holds each of them once. -/
theorem nodup_wholeOrder (all order : List α) (h : all.Nodup) : (wholeOrder all order).Nodup := by
  refine List.nodup_append.2 ⟨nodup_firstsOf _ _, h.filter _, fun a ha b hb hab => ?_⟩
  have ho : a ∈ order := ((mem_firstsOf a order []).1 ha).1
  have hn : b ∉ order := by simpa using (List.mem_filter.1 hb).2
  exact hn (hab ▸ ho)

theorem mem_wholeOrder (all order : List α) (x : α) (h : x ∈ all) : x ∈ wholeOrder all order := by
  by_cases ho : x ∈ order
  · exact List.mem_append_left _ ((mem_firstsOf x order []).2 ⟨ho, by simp⟩)
  · exact List.mem_append_right _ (List.mem_filter.2 ⟨h, by simpa using ho⟩)

/-- A run through an order of all the parts: what holds before a part and is kept until it, and what that part makes of it and is
kept after it, holds in the end. -/
theorem foldl_wholeOrder {β : Type} (f : β → α → β) (all order : List α) (part : α) (hall : all.Nodup) (hmem : part ∈ all)
    (I J : β → Prop) (before : ∀ b q, q ≠ part → I b → I (f b q)) (there : ∀ b, I b → J (f b part))
    (after : ∀ b q, q ≠ part → J b → J (f b q)) (b : β) (h : I b) : J ((wholeOrder all order).foldl f b) := by
  have keeps (K : β → Prop) (l : List α) (hl : part ∉ l) (step : ∀ b q, q ≠ part → K b → K (f b q)) :
      ∀ b, K b → K (l.foldl f b) := by
    induction l with
    | nil => exact fun _ hb => hb
    | cons q rest ih =>
      rw [List.mem_cons, not_or] at hl
      exact fun b hb => ih hl.2 _ (step b q (Ne.symm hl.1) hb)
  obtain ⟨l₁, l₂, hl⟩ := List.append_of_mem (mem_wholeOrder all order part hmem)
  have hn := nodup_wholeOrder all order hall
  rw [hl, List.nodup_append, List.nodup_cons] at hn
  rw [hl, List.foldl_append, List.foldl_cons]
  have h₁ : part ∉ l₁ := fun hp => hn.2.2 part hp part (by simp) rfl
  exact keeps J l₂ hn.2.1.1 after _ (there _ (keeps I l₁ h₁ before b h))

omit [DecidableEq α] in
/-- What every part keeps holds at the end of a run through an order. -/
theorem foldl_keeps {β : Type} (f : β → α → β) (I : β → Prop) (step : ∀ b q, I b → I (f b q)) :
    ∀ (l : List α) (b : β), I b → I (l.foldl f b)
  | [], _, h => h
  | q :: rest, b, h => foldl_keeps f I step rest _ (step b q h)

end Orders

/-! ### BIAS-VALID (R64) -/

theorem flagsKept_refreshBias (s : State) : FlagsKept s (refreshBias s) := by
  unfold refreshBias
  split
  · exact (flagsKept_setLs _ s).trans (follows_abandonRampOut _).flags
  · exact flagsKept_setLs _ s

theorem flagsKept_sendActuator (s : State) : FlagsKept s (sendActuator s) := .of_port (by simp)

theorem flagsKept_refreshBiasNow (s : State) : FlagsKept s (refreshBiasNow s) := by
  unfold refreshBiasNow
  split
  · exact (flagsKept_refreshBias s).trans (flagsKept_sendActuator _)
  · exact flagsKept_refreshBias s

/-- The record sent is the only change that an actuator record makes to BIAS-VALID's unit (R80). -/
theorem sendActuator_biasValid (s : State) : (sendActuator s).ls.biasValid = s.ls.biasValid := by
  unfold sendActuator; split <;> rfl

/-- After it BIAS-VALID stands at its level, a record sent or not (R64). -/
theorem refreshBiasNow_biasValid (s : State) : (refreshBiasNow s).ls.biasValid = s.biasLevel := by
  unfold refreshBiasNow
  split
  · rw [sendActuator_biasValid, refreshBias_biasValid]
  · exact refreshBias_biasValid s

/-- Where BIAS-VALID stands at its level already, nothing changes (R64). -/
theorem refreshBiasNow_eq_self (s : State) (h : s.ls.biasValid = s.biasLevel) : refreshBiasNow s = s := by
  have still : ¬ (s.ls.biasValid = true ∧ s.biasLevel = false) := by rw [h]; simp
  rw [refreshBiasNow, if_neg still, refreshBias, if_neg still, ← h]
  rfl

/-- BIAS-VALID following its conditions changes neither unit, ramp counter nor stop pulse of a unit that is not in RAMP-OUT
(R64, R78). -/
theorem refreshBiasNow_unit (s : State) (h : s.ls.unit ≠ .rampOut) :
    (refreshBiasNow s).ls.unit = s.ls.unit ∧ (refreshBiasNow s).ls.k = s.ls.k ∧ (refreshBiasNow s).ls.stop = s.ls.stop ∧
    (refreshBiasNow s).ls.stopTimer = s.ls.stopTimer := by
  by_cases hf : s.ls.biasValid = true ∧ s.biasLevel = false
  · have dropped : refreshBias s = s.setLs s.ls.dropBias := by
      rw [refreshBias, if_pos hf, abandonRampOut, if_neg (by simpa [LoadShare.dropBias] using h)]
    rw [refreshBiasNow, if_pos hf, dropped]
    unfold sendActuator
    split <;> simp [LoadShare.dropBias]
  · rw [refreshBiasNow, if_neg hf, refreshBias, if_neg hf]
    simp

/-! ### Breaker settles -/

/-- The set has come onto the bus: RAMP-IN with k 0, a stop pulse cut, the start attempt ended, UNIT raised (R56, R79, R90). -/
def OntoBus (t : State) : Prop :=
  t.ls.unit = .rampIn ∧ t.ls.k = 0 ∧ t.ls.stop = false ∧ t.ls.stopTimer = none ∧ t.demand.start = false ∧
  t.demand.attempt = none ∧ flagOf t .unit = true

/-- The set has left the bus at the station's own TRIP: OFFLINE with TRIP released, the stop pulse begun, the biases dropped, the
alerts as given and UNIT raised (R76, R79). -/
def OffByOwnTrip (alerts : List Alert) (t : State) : Prop :=
  t.ls.unit = .offline ∧ t.ls.trip = false ∧ t.ls.tripTimer = none ∧ t.ls.stop = true ∧ t.ls.stopTimer = some 0 ∧
  t.ls.speedBias = 0 ∧ t.ls.voltBias = 0 ∧ t.ls.biasValid = false ∧ t.link.alerts = alerts ∧ flagOf t .unit = true

theorem OntoBus.of_kept {s t : State} (h : OntoBus s) (hls : t.ls = s.ls) (hdemand : t.demand = s.demand)
    (hflags : FlagsKept s t) : OntoBus t := by
  obtain ⟨hunit, hk, hstop, htimer, hstart, hattempt, hflag⟩ := h
  unfold OntoBus
  rw [hls, hdemand]
  exact ⟨hunit, hk, hstop, htimer, hstart, hattempt, hflags _ hflag⟩

theorem OffByOwnTrip.of_kept {alerts : List Alert} {s t : State} (h : OffByOwnTrip alerts s) (hls : t.ls = s.ls)
    (hlink : t.link = s.link) (hflags : FlagsKept s t) : OffByOwnTrip alerts t := by
  obtain ⟨hunit, htrip, htimer, hstop, hpulse, hspeed, hvolt, hbias, halerts, hflag⟩ := h
  unfold OffByOwnTrip
  rw [hls, hlink]
  exact ⟨hunit, htrip, htimer, hstop, hpulse, hspeed, hvolt, hbias, halerts, hflags _ hflag⟩

/-- A set breaker that settles CLOSED brings an OFFLINE or STARTING set onto the bus (R56). -/
theorem setSettlesClosed_ontoBus (s : State) (hw : s.ctl.station.working = true)
    (hu : s.ls.unit = .offline ∨ s.ls.unit = .starting) : OntoBus (setSettlesClosed s) := by
  rw [setSettlesClosed, if_pos ⟨hw, hu⟩]
  obtain ⟨hunit, hk, hstop, htimer⟩ :=
    refreshBiasNow_unit (raise .unit ((s.setLs s.ls.ontoBus).setDemand s.demand.endAttempt)) (by simp [LoadShare.ontoBus])
  refine ⟨hunit, hk, hstop, htimer, by simp [Demand.endAttempt], by simp [Demand.endAttempt], ?_⟩
  exact flagsKept_refreshBiasNow _ _ (by simp)

/-- A set breaker that settles OPEN at the station's own TRIP takes the set off the bus with no alert raised (R76). -/
theorem setSettlesOpen_ownTrip (s : State) (hu : s.ls.unit.onBus = true) (ht : s.ls.trip = true) :
    OffByOwnTrip s.link.alerts (setSettlesOpen s) := by
  rw [setSettlesOpen, if_pos hu, if_pos ht]
  unfold sendActuator
  split <;> simp [OffByOwnTrip, LoadShare.openedByTrip, LoadShare.clearRamp, LoadShare.dropBias]

theorem flagsKept_setSettlesClosed (s : State) : FlagsKept s (setSettlesClosed s) := by
  unfold setSettlesClosed
  split
  · exact (((flagsKept_setLs _ s).trans (flagsKept_setDemand _ _)).trans (flagsKept_raise .unit _)).trans
      (flagsKept_refreshBiasNow _)
  · exact .refl s

theorem flagsKept_tripSet (s : State) : FlagsKept s (tripSet s) := by
  have queued := (follows_queueAlert (.trip s.ctl.cfg.pRated s.intake.means.p) s).flags
  have sent := (queued.trans (flagsKept_setLs s.ls.tripNow _)).trans (flagsKept_sendActuator _)
  exact (sent.trans (flagsKept_raise .unit _)).trans (follows_offerTrigger _ _).flags

theorem flagsKept_setSettlesOpen (s : State) : FlagsKept s (setSettlesOpen s) := by
  unfold setSettlesOpen
  split
  · split
    · exact ((flagsKept_setLs _ s).trans (flagsKept_sendActuator _)).trans (flagsKept_raise .unit _)
    · exact flagsKept_tripSet s
  · exact .refl s

/-! ### A sample's hand-offs (R3, R11) -/

theorem flagsKept_handSetBreaker (n : BreakerNews) (s : State) : FlagsKept s (handSetBreaker n s) := by
  have raised := flagsKept_raiseIf n.any .breaker s
  unfold handSetBreaker
  split
  · cases n.reading with
    | closed => exact raised.trans (flagsKept_setSettlesClosed _)
    | opened => exact raised.trans (flagsKept_setSettlesOpen _)
    | transit => exact raised
    | discrepant => exact raised
  · exact raised

/-- The set breaker's news raise BREAKER (R11). -/
theorem flagOf_handSetBreaker (n : BreakerNews) (s : State) (h : n.any = true) :
    flagOf (handSetBreaker n s) .breaker = true := by
  have raised : flagOf (raiseIf n.any .breaker s) .breaker = true := by simp [h]
  unfold handSetBreaker
  split
  · cases n.reading with
    | closed => exact flagsKept_setSettlesClosed _ _ raised
    | opened => exact flagsKept_setSettlesOpen _ _ raised
    | transit => exact raised
    | discrepant => exact raised
  · exact raised

theorem flagsKept_handGroupBreakers (ns : Vector BreakerNews 8) (s : State) : FlagsKept s (handGroupBreakers ns s) :=
  (flagsKept_setShed _ s).trans (flagsKept_raiseIf _ .group _)

/-- A group breaker's news raise GROUP (R11). -/
theorem flagOf_handGroupBreakers (ns : Vector BreakerNews 8) (s : State) (g : GroupNo) (h : ns[g].any = true) :
    flagOf (handGroupBreakers ns s) .group = true := by
  have any : groupNumbers.any (fun g => ns[g].any) = true :=
    List.any_eq_true.2 ⟨g, by fin_cases g <;> decide, h⟩
  unfold handGroupBreakers
  rw [flagOf_raiseIf, any]
  simp

/-- The group breakers' news change the groups' states and nothing else of the shed unit (R100). -/
theorem handGroupBreakers_shed (ns : Vector BreakerNews 8) (s : State) :
    (handGroupBreakers ns s).shed =
      { s.shed with groups := Vector.ofFn (fun g : GroupNo => s.shed.groups[g].afterNews ns[g]) } := by
  simp [handGroupBreakers]

/-- Every hand-off of a sample keeps the flags. -/
theorem flagsKept_handPart (n : SampleNews) (part : SamplePart) (s : State) : FlagsKept s (handPart n part s) := by
  by_cases h : part = .breakers
  · rw [h]; exact (flagsKept_handSetBreaker _ s).trans (flagsKept_handGroupBreakers _ _)
  · exact (follows_handPart n part s h).flags

/-- Every hand-off of a sample keeps the peer table. -/
theorem handPart_peers (n : SampleNews) (part : SamplePart) (s : State) : (handPart n part s).view.peers = s.view.peers := by
  by_cases h : part = .breakers
  · rw [h]; simp [handPart]
  · exact (follows_handPart n part s h).peers

/-- The derivation of the tie state is the only hand-off that reaches the island view. -/
theorem handPart_view (n : SampleNews) (part : SamplePart) (s : State) (h : part ≠ .tie) :
    (handPart n part s).view = s.view := by
  cases part with
  | tie => exact absurd rfl h
  | breakers => simp [handPart]
  | ufShed => simp only [handPart]; split <;> simp
  | ufTrigger => simp only [handPart]; split <;> simp
  | dead => simp only [handPart]; split <;> simp
  | row => simp [handPart]

/-- The set breaker's settle is the only hand-off that reaches generation on demand (R90). -/
theorem handPart_demand (n : SampleNews) (part : SamplePart) (s : State) (h : part ≠ .breakers) :
    (handPart n part s).demand = s.demand := by
  cases part with
  | breakers => exact absurd rfl h
  | tie => simp only [handPart]; split <;> simp
  | ufShed => simp only [handPart]; split <;> simp
  | ufTrigger => simp only [handPart]; split <;> simp
  | dead => simp only [handPart]; split <;> simp
  | row => simp [handPart]

/-! ### One accepted sample (R3) -/

@[simp] theorem takeSample_intake (x : Sample) (s : State) : (takeSample x s).intake = s.intakeAfter x := by
  simp [takeSample]

/-- A sample's own changes leave the unit state of a unit that is not in RAMP-OUT (R64, R78). -/
theorem takeSample_unit (x : Sample) (s : State) (h : s.ls.unit ≠ .rampOut) : (takeSample x s).ls.unit = s.ls.unit :=
  (refreshBiasNow_unit _ (by simpa using h)).1.trans (by simp)

/-- A sample that ends FAULT raises MEASURE (R7). -/
theorem flagOf_takeSample_measure (x : Sample) (s : State) (h : s.intake.measure = .fault) :
    flagOf (takeSample x s) .measure = true :=
  flagsKept_refreshBiasNow _ _ (by simp [h])

section Accepted

variable (x : Sample) (order : List SamplePart) (s : State)

/-- Station control and intake stand through a sample's hand-offs; what every hand-off keeps with them holds in the end. -/
theorem acceptSample_keeps (I : State → Prop)
    (step : ∀ t q, t.ctl = s.ctl → t.intake = s.intakeAfter x → I t → I (handPart (s.sampleNews x) q t))
    (h : I (takeSample x s)) :
    (acceptSample x order s).ctl = s.ctl ∧ (acceptSample x order s).intake = s.intakeAfter x ∧ I (acceptSample x order s) :=
  foldl_keeps _ (fun t => t.ctl = s.ctl ∧ t.intake = s.intakeAfter x ∧ I t)
    (fun t q ht => ⟨by simpa using ht.1, by simpa using ht.2.1, step t q ht.1 ht.2.1 ht.2.2⟩) _ _
    ⟨by simp, by simp, h⟩

/-- What holds up to one hand-off and what that hand-off makes of it, in whatever order the hand-offs are taken. -/
theorem acceptSample_through (part : SamplePart) (I J : State → Prop)
    (before : ∀ t q, q ≠ part → t.ctl = s.ctl → I t → I (handPart (s.sampleNews x) q t))
    (there : ∀ t, t.ctl = s.ctl → t.intake = s.intakeAfter x → I t → J (handPart (s.sampleNews x) part t))
    (after : ∀ t q, q ≠ part → t.ctl = s.ctl → J t → J (handPart (s.sampleNews x) q t)) (h : I (takeSample x s)) :
    J (acceptSample x order s) :=
  (foldl_wholeOrder (fun t q => handPart (s.sampleNews x) q t) SamplePart.all order part (by decide)
    (by cases part <;> decide)
    (fun t => t.ctl = s.ctl ∧ t.intake = s.intakeAfter x ∧ I t) (fun t => t.ctl = s.ctl ∧ J t)
    (fun t q hq ht => ⟨by simpa using ht.1, by simpa using ht.2.1, before t q hq ht.1 ht.2.2⟩)
    (fun t ht => ⟨by simpa using ht.1, there t ht.1 ht.2.1 ht.2.2⟩)
    (fun t q hq ht => ⟨by simpa using ht.1, after t q hq ht.1 ht.2⟩) (takeSample x s) ⟨by simp, by simp, h⟩).2

theorem acceptSample_ctl : (acceptSample x order s).ctl = s.ctl :=
  (acceptSample_keeps x order s (fun _ => True) (fun _ _ _ _ _ => trivial) trivial).1

theorem acceptSample_intake : (acceptSample x order s).intake = s.intakeAfter x :=
  (acceptSample_keeps x order s (fun _ => True) (fun _ _ _ _ _ => trivial) trivial).2.1

theorem acceptSample_pending : (acceptSample x order s).pending = s.pending :=
  (acceptSample_keeps x order s (fun t => t.pending = s.pending) (fun _ _ _ _ ht => by simpa using ht) (by simp)).2.2

theorem acceptSample_peers : (acceptSample x order s).view.peers = s.view.peers :=
  (acceptSample_keeps x order s (fun t => t.view.peers = s.view.peers)
    (fun t q _ _ ht => (handPart_peers _ q t).trans ht) (by simp)).2.2

/-- A flag that one hand-off raises stands set at the end of the sample. -/
theorem flagOf_acceptSample (part : SamplePart) (f : ChangeFlag)
    (there : ∀ t, flagOf (handPart (s.sampleNews x) part t) f = true) : flagOf (acceptSample x order s) f = true :=
  acceptSample_through x order s part (fun _ => True) (fun t => flagOf t f = true) (fun _ _ _ _ _ => trivial)
    (fun t _ _ _ => there t) (fun t q _ _ ht => flagsKept_handPart _ q t f ht) trivial

theorem flagsKept_acceptSample : FlagsKept (takeSample x s) (acceptSample x order s) :=
  fun f hf => (acceptSample_keeps x order s (fun t => flagOf t f = true)
    (fun t q _ _ ht => flagsKept_handPart _ q t f ht) hf).2.2

end Accepted

/-- An accepted sample is taken with its hand-offs (R1, R2, R3). -/
theorem exec_sampleArrival (bytes : List Byte) (order : List SamplePart) (s : State) (x : Sample)
    (ha : s.ctl.station.active = true) (hx : parseSample s.ctl.straps.role bytes = some x) :
    exec (.sampleArrival bytes order) s = .next (acceptSample x order s) := by
  simp [exec, execSampleArrival, ha, hx]

/-- A sample in the sums adds each of its fields, and 255 samples are the most (R3). -/
theorem PeriodSums.add_of_lt (t : PeriodSums) (x : Sample) (h : t.n < 255) :
    t.add x = { p := t.p + x.p, q := t.q + x.q, f := t.f + x.f, v := t.v + x.v,
                loads := Vector.ofFn (fun g : GroupNo => t.loads[g] + x.loads[g]), n := t.n + 1 } := by
  simp [PeriodSums.add, h]

/-- Settles O21: intake takes the sample in its own changes, and no hand-off touches intake, station control or the peers. -/
theorem sampleArrivalTakesSample : Obligations.SampleArrivalTakesSample := by
  unfold Obligations.SampleArrivalTakesSample
  intro bytes order s
  refine ⟨fun h => ?_, fun x ha hx => ⟨_, exec_sampleArrival bytes order s x ha hx, ?_⟩⟩
  · rcases h with h | h <;> simp [exec, execSampleArrival, h]
  · rw [acceptSample_intake]
    refine ⟨rfl, rfl, rfl, rfl, ?_, fun hm => ?_, acceptSample_ctl x order s, acceptSample_peers x order s,
      acceptSample_pending x order s⟩
    · show if s.intake.sums.n < 255 then _ else s.intake.sums.add x = _
      split
      · next hn => simp [State.intakeAfter, PeriodSums.add_of_lt _ x hn]
      · next hn => simp [PeriodSums.add, hn]
    · exact flagsKept_acceptSample x order s _ (flagOf_takeSample_measure x s hm)

end Machine
end Sys2Proof

/-! Proofs. The detectors, DEAD and the cut rank, and the timeouts of intake (chapter 1). -/

namespace Sys2Proof
namespace Machine

open Safety

/-! ### The detectors (R13, R14) -/

/-- A sample on the side that the detector waits for counts one, and turns the flag at the last of `need`. -/
theorem detect_counts (need : Nat) (below above flag : Bool) (count : Nat) (h : (if flag then above else below) = true) :
    detect need below above flag count = if need ≤ count + 1 then (!flag, 0) else (flag, count + 1) := by
  rw [detect, if_pos h]

/-- Any other sample zeros the count. -/
theorem detect_zeros (need : Nat) (below above flag : Bool) (count : Nat) (h : (if flag then above else below) = false) :
    detect need below above flag count = (flag, 0) := by
  simp [detect, h]

/-- A run of samples that each count one: below `need` of them the flag stands and the count is theirs, and the last of `need`
turns the flag. -/
theorem foldl_counts {α : Type} (f : Bool × Nat → α → Bool × Nat) (need : Nat) (flag : Bool) (xs : List α)
    (h : ∀ x ∈ xs, ∀ n, f (flag, n) x = if need ≤ n + 1 then (!flag, 0) else (flag, n + 1)) :
    ∀ n, (n + xs.length < need → xs.foldl f (flag, n) = (flag, n + xs.length)) ∧
      (n < need → n + xs.length = need → xs.foldl f (flag, n) = (!flag, 0)) := by
  induction xs with
  | nil => intro n; exact ⟨fun _ => rfl, fun hlt he => absurd he (by simp; omega)⟩
  | cons x rest ih =>
    intro n
    have hx := h x (by simp) n
    have ih' := ih (fun y hy => h y (List.mem_cons_of_mem x hy)) (n + 1)
    rw [List.length_cons, List.foldl_cons, hx]
    constructor
    · intro hlt
      rw [if_neg (by omega), ih'.1 (by omega)]
      congr 1; omega
    · intro hlt he
      by_cases hlast : need ≤ n + 1
      · have hnil : rest = [] := List.eq_nil_of_length_eq_zero (by omega)
        rw [if_pos hlast, hnil]; rfl
      · rw [if_neg hlast]; exact ih'.2 (by omega) (by omega)

/-- A run of samples from a count of 0. -/
theorem foldl_counts_from_zero {α : Type} (f : Bool × Nat → α → Bool × Nat) (need : Nat) (flag : Bool) (xs : List α)
    (hneed : 1 ≤ need) (h : ∀ x ∈ xs, ∀ n, f (flag, n) x = if need ≤ n + 1 then (!flag, 0) else (flag, n + 1)) :
    (xs.length < need → xs.foldl f (flag, 0) = (flag, xs.length)) ∧
    (xs.length = need → xs.foldl f (flag, 0) = (!flag, 0)) := by
  simpa [Nat.pos_iff_ne_zero, Nat.one_le_iff_ne_zero.1 hneed] using foldl_counts f need flag xs h 0

theorem detectUf_counts_below (c : Settings) (f : Int) (n : Nat) (h : f < c.fUf) :
    detectUf c f false n = if c.nUf ≤ n + 1 then (true, 0) else (false, n + 1) :=
  detect_counts _ _ _ _ _ (by simpa using h)

theorem detectUf_counts_above (c : Settings) (f : Int) (n : Nat) (h : c.fUf + c.hyst ≤ f) :
    detectUf c f true n = if c.nUf ≤ n + 1 then (false, 0) else (true, n + 1) :=
  detect_counts _ _ _ _ _ (by simpa using h)

theorem detectUf_zeros_clear (c : Settings) (f : Int) (n : Nat) (h : c.fUf ≤ f) : detectUf c f false n = (false, 0) :=
  detect_zeros _ _ _ _ _ (by simpa using h)

theorem detectUf_zeros_set (c : Settings) (f : Int) (n : Nat) (h : f < c.fUf + c.hyst) : detectUf c f true n = (true, 0) :=
  detect_zeros _ _ _ _ _ (by simpa using h)

theorem detectDead_counts_below (c : Settings) (v : Int) (n : Nat) (h : v < c.deadVolts) :
    detectDead c v false n = if 8 ≤ n + 1 then (true, 0) else (false, n + 1) :=
  detect_counts _ _ _ _ _ (by simpa using h)

theorem detectDead_counts_above (c : Settings) (v : Int) (n : Nat) (h : c.deadVolts ≤ v) :
    detectDead c v true n = if 8 ≤ n + 1 then (false, 0) else (true, n + 1) :=
  detect_counts _ _ _ _ _ (by simpa using h)

theorem detectDead_zeros_clear (c : Settings) (v : Int) (n : Nat) (h : c.deadVolts ≤ v) :
    detectDead c v false n = (false, 0) :=
  detect_zeros _ _ _ _ _ (by simpa using h)

theorem detectDead_zeros_set (c : Settings) (v : Int) (n : Nat) (h : v < c.deadVolts) :
    detectDead c v true n = (true, 0) :=
  detect_zeros _ _ _ _ _ (by simpa using h)

/-! ### DEAD and the cut rank (R112) -/

/-- The cut rank stands at 15 with the settle timer just started and SHED-STEP raised (R104, R112). -/
def CutRaisedTo15 (s : State) : Prop := s.shed.cut = 15 ∧ s.shed.settle = some 0 ∧ flagOf s .shedStep = true

/-- A cut rank below 15 stays below, or it has been raised to 15. -/
theorem Follows.below15 {s t : State} (h : Follows s t) (hs : s.shed.cut < 15 ∨ CutRaisedTo15 s) :
    t.shed.cut < 15 ∨ CutRaisedTo15 t := by
  rcases hs with hs | ⟨h15, hsettle, hflag⟩ <;> rcases h.cut with ⟨hc, _, ht⟩ | ⟨hc, hle, ht, hf⟩
  · exact .inl (by omega)
  · by_cases he : t.shed.cut = 15
    · exact .inr ⟨he, ht, hf⟩
    · exact .inl (by omega)
  · exact .inr ⟨hc.trans h15, ht.trans hsettle, h.flags _ hflag⟩
  · omega

/-- A cut rank raised to 15 stands. -/
theorem Follows.at15 {s t : State} (h : Follows s t) (hs : CutRaisedTo15 s) : CutRaisedTo15 t := by
  rcases h.below15 (.inr hs) with hlt | ht
  · have := hs.1
    rcases h.cut with ⟨hc, _⟩ | ⟨hc, _⟩ <;> omega
  · exact ht

/-- The breakers' news leave the cut rank and the settle timer (R100). -/
theorem handPart_breakers_cut (n : SampleNews) (s : State) :
    (handPart n .breakers s).shed.cut = s.shed.cut ∧ (handPart n .breakers s).shed.settle = s.shed.settle := by
  simp [handPart, handGroupBreakers_shed]

theorem handPart_below15 (n : SampleNews) (part : SamplePart) (s : State) (hs : s.shed.cut < 15 ∨ CutRaisedTo15 s) :
    (handPart n part s).shed.cut < 15 ∨ CutRaisedTo15 (handPart n part s) := by
  by_cases h : part = .breakers
  · rw [h]
    obtain ⟨hcut, hsettle⟩ := handPart_breakers_cut n s
    rcases hs with hs | ⟨h15, ht, hf⟩
    · exact .inl (by omega)
    · exact .inr ⟨hcut.trans h15, hsettle.trans ht, flagsKept_handPart n _ s _ hf⟩
  · exact (follows_handPart n part s h).below15 hs

theorem handPart_at15 (n : SampleNews) (part : SamplePart) (s : State) (hs : CutRaisedTo15 s) :
    CutRaisedTo15 (handPart n part s) := by
  by_cases h : part = .breakers
  · rw [h]
    obtain ⟨hcut, hsettle⟩ := handPart_breakers_cut n s
    exact ⟨hcut.trans hs.1, hsettle.trans hs.2.1, flagsKept_handPart n _ s _ hs.2.2⟩
  · exact (follows_handPart n part s h).at15 hs

/-- DEAD set on a feeder station leaves a cut rank of 15 as it is (R112). -/
theorem deadEntry_of_15 (s : State) (h : 15 ≤ s.shed.cut) : deadEntry s = s := by
  rw [deadEntry, if_neg (by omega)]

/-- DEAD set raises a lower cut rank to 15 (R112). -/
theorem deadEntry_of_lt (s : State) (hr : s.isFeeder = true) (ha : s.ctl.station.active = true) (h : s.shed.cut < 15) :
    deadEntry s = increaseCut 15 (some .dead) s := by
  rw [deadEntry, if_pos ⟨hr, ha, h⟩]

theorem increaseCut_to15 (cause : Option ShedCause) (s : State) (h : s.shed.cut < 15) :
    CutRaisedTo15 (increaseCut 15 cause s) := by
  have hcut : (increaseCut 15 cause s).shed.cut = 15 := by rw [increaseCut_shed]; rfl
  rcases (follows_increaseCut 15 cause s h (Nat.le_refl _)).cut with ⟨hsame, _⟩ | ⟨_, _, hsettle, hflag⟩
  · omega
  · exact ⟨hcut, hsettle, hflag⟩

theorem deadEntry_to15 (s : State) (hr : s.isFeeder = true) (ha : s.ctl.station.active = true)
    (h : s.shed.cut < 15 ∨ CutRaisedTo15 s) : CutRaisedTo15 (deadEntry s) := by
  rcases h with h | h
  · rw [deadEntry_of_lt s hr ha h]; exact increaseCut_to15 _ s h
  · rwa [deadEntry_of_15 s (Nat.le_of_eq h.1.symm)]

/-- A sample that sets DEAD on a feeder station leaves the cut rank at 15 in whatever order its hand-offs are taken (R112). -/
theorem acceptSample_dead (x : Sample) (order : List SamplePart) (s : State) (hr : s.isFeeder = true)
    (ha : s.ctl.station.active = true) (hd : (s.sampleNews x).deadSet = true) (hcut : s.shed.cut < 15) :
    CutRaisedTo15 (acceptSample x order s) := by
  refine acceptSample_through x order s .dead (fun t => t.shed.cut < 15 ∨ CutRaisedTo15 t) CutRaisedTo15
    (fun t q _ _ ht => handPart_below15 _ q t ht) (fun t hctl _ ht => ?_) (fun t q _ _ ht => handPart_at15 _ q t ht)
    (.inl (by simpa using hcut))
  rw [handPart, hd, if_pos rfl]
  exact deadEntry_to15 t (by rw [State.isFeeder, hctl]; exact hr) (by rw [hctl]; exact ha) ht

/-- The alert of an increase joins a queue that has room (R25, R104). -/
theorem increaseCut_alerts (cut : Nat) (c : ShedCause) (s : State) :
    (increaseCut cut (some c) s).link.alerts =
      if s.ctl.station.transmits = true ∧ s.link.alerts.length < 4 then s.link.alerts ++ [.shed cut c]
      else s.link.alerts := by
  have queued (t : State) (hctl : t.ctl = s.ctl) (hlink : t.link = s.link) :
      (queueAlert (.shed cut c) t).link.alerts =
        if s.ctl.station.transmits = true ∧ s.link.alerts.length < 4 then s.link.alerts ++ [.shed cut c]
        else s.link.alerts := by
    rcases queueAlert_cases (.shed cut c) t with ⟨ht, hl, e⟩ | ⟨ht, hl, e⟩ | ⟨ht, e⟩ <;>
      rw [hctl] at ht <;> rw [e]
    · rw [hlink] at hl; simp [ht, hl, hlink]
    · rw [hlink] at hl; simp [hlink, Nat.not_lt.2 hl]
    · simp [ht, hlink]
  unfold increaseCut
  exact queued _ (by split <;> simp) (by split <;> simp)

/-- Settles O26: a run counts one at each sample and turns the flag at its last; DEAD set leaves the cut rank at 15 in every order of
the hand-offs. -/
theorem underFrequencyNeedsRun : Obligations.UnderFrequencyNeedsRun := by
  unfold Obligations.UnderFrequencyNeedsRun
  refine ⟨fun c fs hn hfs => ?_, fun c fs hn hfs => ?_, fun c f n => ⟨detectUf_zeros_clear c f n, detectUf_zeros_set c f n⟩,
    fun c vs => ⟨fun hvs => ?_, fun hvs => ?_⟩,
    fun c v n => ⟨detectDead_zeros_clear c v n, detectDead_zeros_set c v n⟩,
    fun bytes order s x ha hx => ⟨_, exec_sampleArrival bytes order s x ha hx, ?_⟩, fun s hr ha => ⟨deadEntry_of_15 s, ?_⟩⟩
  · exact foldl_counts_from_zero _ c.nUf false fs hn (fun f hf n => detectUf_counts_below c f n (hfs f hf))
  · exact foldl_counts_from_zero _ c.nUf true fs hn (fun f hf n => detectUf_counts_above c f n (hfs f hf))
  · exact foldl_counts_from_zero _ 8 false vs (by decide) (fun v hv n => detectDead_counts_below c v n (hvs v hv))
  · exact foldl_counts_from_zero _ 8 true vs (by decide) (fun v hv n => detectDead_counts_above c v n (hvs v hv))
  · rw [acceptSample_intake]
    refine ⟨rfl, fun hg => ?_, fun hr => ⟨by simp [State.intakeAfter, hr], fun hclear hset hcut => ?_⟩⟩
    · have hf : s.isFeeder = false := by simp_all [State.isGenset, State.isFeeder]
      simp [State.intakeAfter, hf]
    · exact acceptSample_dead x order s hr ha (by simp [State.sampleNews, hclear, hset]) hcut
  · intro hcut
    rw [deadEntry_of_lt s hr ha hcut]
    refine ⟨(increaseCut_to15 _ s hcut).1, fun ht hl => ?_, fun ht => ?_⟩ <;> rw [increaseCut_alerts] <;> simp [*]

/-! ### Timeouts of intake -/

/-- The derived tie state is read from the role, the tie_reporter setting, intake and the peer table alone (R43, R44). -/
theorem derivedTie_congr {s t : State} (hctl : t.ctl = s.ctl) (hintake : t.intake = s.intake)
    (hpeers : t.view.peers = s.view.peers) : t.derivedTie = s.derivedTie := by
  have readings : t.tieReadings = s.tieReadings := by
    unfold State.tieReadings State.ownReporter State.ownTieClosed State.isFeeder
    rw [hctl, hintake, hpeers]
  rw [State.derivedTie, State.derivedTie, readings]

/-- After a derivation the view holds the state derived (R44). -/
theorem deriveTieNow_holds (s : State) : (deriveTieNow s).view.tieClosed = (deriveTieNow s).derivedTie := by
  rw [deriveTieNow_tieClosed,
    derivedTie_congr (deriveTieNow_ctl s) (deriveTieNow_intake s) (follows_deriveTieNow s).peers]

/-- Settles O24: each end needs its count, and what FAULT hands on raises flags and abandons a ramp-out at most. -/
theorem measureTimerEnds : Obligations.MeasureTimerEnds := by
  unfold Obligations.MeasureTimerEnds
  intro s n hn
  refine ⟨fun hdue hgood => ?_, fun hdue hm => ?_, fun hlt => ?_, fun hlt => ?_⟩
  · have due : timerDue Config.measureHeldUs s.intake.measureTimer = true := by
      rw [hn, timerDue_some]; exact decide_eq_true hdue
    exact ⟨_, by rw [exec, execMeasureTimerHeld, if_pos ⟨due, hgood⟩], rfl, by simp [Kept]⟩
  · have due : timerDue Config.measureFaultUs s.intake.measureTimer = true := by
      rw [hn, timerDue_some]; exact decide_eq_true hdue
    refine ⟨_, by rw [exec, execMeasureTimerFault, if_pos ⟨due, hm⟩], by simp [Intake.measureLost], ?_, fun hr => ?_, ?_,
      by simp, by simp, ?_⟩
    · exact (follows_deriveTieNow _).flags _ (flagsKept_refreshBiasNow _ _ (by simp))
    · exact (follows_deriveTieNow _).flags _ (flagsKept_refreshBiasNow _ _ (by simp [hr]))
    · rw [(follows_deriveTieNow _).bias, refreshBiasNow_biasValid]
      simp [State.biasLevel, Intake.measureLost]
    · rw [(follows_deriveTieNow _).peers]; simp
  · simp [exec, execMeasureTimerHeld, hn, timerDue_some, Config.measureHeldUs, Nat.not_le.2 hlt]
  · simp [exec, execMeasureTimerFault, hn, timerDue_some, Config.measureFaultUs, Nat.not_le.2 hlt]

/-- A group's FAULT leaves its output and its remembered load, and an ABSENT group alone (R97, R100). -/
theorem Group.faults_spec (g : Group) :
    g.faults.state = (if g.state = .absent then .absent else .fault) ∧ g.faults.output = g.output ∧
    g.faults.remembered = g.remembered := by
  unfold Group.faults
  cases h : g.state <;> simp [h]

/-- A group breaker's timeout makes the breaker and its group FAULT and raises GROUP (R10, R11, R100). -/
theorem exec_transitTimeout_group (g : GroupNo) (s : State) (h : s.intake.groupBreakers[g].inTransit = true) :
    exec (.transitTimeout (.group g)) s = .next (raise .group
      ((s.setIntake { s.intake with
          groupBreakers := s.intake.groupBreakers.set g s.intake.groupBreakers[g].timedOut }).setShed
        { s.shed with groups := s.shed.groups.set g s.shed.groups[g].faults })) := by
  rw [exec, execTransitTimeout, if_pos h]

/-- Settles O25: each breaker by itself; the tie breaker's FAULT brings the derivation. -/
theorem transitTimeoutFaultsBreaker : Obligations.TransitTimeoutFaultsBreaker := by
  unfold Obligations.TransitTimeoutFaultsBreaker
  refine fun s => ⟨fun h => ?_, fun g h => ?_, fun h => ?_⟩
  · exact ⟨_, by rw [exec, execTransitTimeout, if_pos h], rfl, by simp [RaisedOnly], by simp [Kept]⟩
  · obtain ⟨hstate, houtput, hload⟩ := s.shed.groups[g].faults_spec
    have other (h : GroupNo) (hne : h ≠ g) : ¬ g.val = h.val := fun he => hne (Fin.ext he.symm)
    exact ⟨_, exec_transitTimeout_group g s h, rfl, by simp [BreakerView.timedOut],
      fun h hne => by simp [other h hne], by simpa using hstate, by simpa using houtput,
      by simpa using hload, rfl, rfl, by simp [RaisedOnly], by simp [Kept]⟩
  · refine ⟨_, by rw [exec, execTransitTimeout, if_pos h], by simp [BreakerView.timedOut], ?_, deriveTieNow_holds _,
      by simp, by simp⟩
    exact (follows_deriveTieNow _).flags _ (by simp)

end Machine
end Sys2Proof

/-! Proofs. Breakers, groups and the tie state at a sample (R8 to R11, R44, R100). -/

namespace Sys2Proof
namespace Machine

open Safety

/-! ### Breakers (R8, R9, R11) -/

/-- A reading applied to a breaker does what the table of R9 says of its pair. -/
theorem breakerRead_read (pair : AuxPair) (b : BreakerView) : breakerRead pair b (b.read pair.reading) := by
  obtain ⟨a, b'⟩ := pair
  cases a <;> cases b'
  · refine ⟨by simp, by simp, by simp, fun _ => ?_⟩
    obtain ⟨decoded, settled, transit⟩ := b
    cases decoded <;> rfl
  · exact ⟨by simp, fun _ => rfl, by simp, by simp⟩
  · exact ⟨fun _ => rfl, by simp, by simp, by simp⟩
  · exact ⟨by simp, by simp, fun _ => rfl, by simp⟩

/-- A settle, a FAULT entered or a FAULT ended is the news of a reading (R11). -/
theorem news_any_iff (pair : AuxPair) (b : BreakerView) : (b.news pair.reading).any = true ↔ breakerNews pair b := by
  obtain ⟨a, b'⟩ := pair
  cases a <;> cases b' <;> simp [AuxPair.reading, BreakerView.news, BreakerNews.any, breakerNews]

/-! ### Groups after their breakers' news (R100) -/

theorem readsClosed_eq (g : Group) (h : g.state ≠ .absent) :
    g.readsClosed =
      if g.output = false then { g with state := .connected, confirm := none }
      else if g.state = .shedFailed then g
      else { g with state := .shedding, confirm := some 0 } := by
  unfold Group.readsClosed
  cases hs : g.state <;> cases ho : g.output <;> simp_all

theorem readsOpen_eq (g : Group) (h : g.state ≠ .absent) :
    g.readsOpen =
      if g.output = true then { g with state := .shed, confirm := none }
      else { g with state := .opened, remembered := 0, confirm := none } := by
  unfold Group.readsOpen
  cases hs : g.state <;> simp_all

theorem faults_eq (g : Group) (h : g.state ≠ .absent) : g.faults = { g with state := .fault, confirm := none } := by
  unfold Group.faults
  cases hs : g.state <;> simp_all

/-- Without news a group stands. -/
theorem afterNews_of_not_any (n : BreakerNews) (g : Group) (h : n.any = false) : g.afterNews n = g := by
  obtain ⟨⟨hs, hf⟩, hc⟩ : (n.settles = false ∧ n.faults = false) ∧ n.clears = false := by simpa [BreakerNews.any] using h
  simp [Group.afterNews, hs, hf, hc]

/-- The table of R100: what a group becomes at its breaker's news. -/
theorem afterNews_table (pair : AuxPair) (b : BreakerView) (g : Group) (hg : g.state ≠ .absent) :
    (¬ breakerNews pair b → g.afterNews (b.news pair.reading) = g) ∧
    (breakerNews pair b →
      (pair = { a := true, b := false } → g.afterNews (b.news pair.reading) =
        (if g.output = false then { g with state := .connected, confirm := none }
         else if g.state = .shedFailed then g
         else { g with state := .shedding, confirm := some 0 })) ∧
      (pair = { a := false, b := true } → g.afterNews (b.news pair.reading) =
        (if g.output = true then { g with state := .shed, confirm := none }
         else { g with state := .opened, remembered := 0, confirm := none })) ∧
      (pair = { a := true, b := true } → g.afterNews (b.news pair.reading) =
        { g with state := .fault, confirm := none })) := by
  refine ⟨fun h => afterNews_of_not_any _ _ (by simpa [← news_any_iff] using h), fun h => ⟨?_, ?_, ?_⟩⟩ <;> rintro rfl
  · rw [← readsClosed_eq g hg]
    have hn : b.settled ≠ .closed ∨ b.decoded = .fault := by simpa [breakerNews] using h
    simp [Group.afterNews, AuxPair.reading, BreakerView.news, hn]
  · rw [← readsOpen_eq g hg]
    have hn : b.settled ≠ .opened ∨ b.decoded = .fault := by simpa [breakerNews] using h
    simp [Group.afterNews, AuxPair.reading, BreakerView.news, hn]
  · rw [← faults_eq g hg]
    have hn : b.decoded ≠ .fault := by simpa [breakerNews] using h
    simp [Group.afterNews, AuxPair.reading, BreakerView.news, hn]

/-! ### The roles -/

theorem isGenset_iff (s : State) : s.isGenset = true ↔ s.ctl.straps.role = .genset := by simp [State.isGenset]

theorem isFeeder_iff (s : State) : s.isFeeder = true ↔ s.ctl.straps.role = .feeder := by simp [State.isFeeder]

theorem isFeeder_of_genset (s : State) (h : s.ctl.straps.role = .genset) : s.isFeeder = false := by
  simp [State.isFeeder, h]

theorem isGenset_of_feeder (s : State) (h : s.ctl.straps.role = .feeder) : s.isGenset = false := by
  simp [State.isGenset, h]

section GensetSample

variable (x : Sample) (order : List SamplePart) (s : State) (hr : s.ctl.straps.role = .genset)
include hr

theorem sampleNews_set : (s.sampleNews x).setBreaker = s.intake.setBreaker.news x.setAux.reading := by
  simp [State.sampleNews, (isGenset_iff s).2 hr]

theorem sampleNews_tie_genset : (s.sampleNews x).tieBreaker.any = false := by
  simp [State.sampleNews, isFeeder_of_genset s hr, BreakerNews.nothing, BreakerNews.any]

/-- A sample in which the set breaker settles CLOSED brings an OFFLINE or STARTING set onto the bus (R56). -/
theorem acceptSample_ontoBus (hpair : x.setAux = { a := true, b := false }) (hsettles : s.intake.setBreaker.settled ≠ .closed)
    (hw : s.ctl.station.working = true) (hu : s.ls.unit = .offline ∨ s.ls.unit = .starting) :
    OntoBus (acceptSample x order s) := by
  have notRampOut (t : State) (ht : t.ls.unit = .offline ∨ t.ls.unit = .starting) : t.ls.unit ≠ .rampOut := by
    rcases ht with ht | ht <;> simp [ht]
  refine acceptSample_through x order s .breakers (fun t => t.ls.unit = .offline ∨ t.ls.unit = .starting) OntoBus
    (fun t q hq _ ht => ?_) (fun t hctl _ ht => ?_) (fun t q hq _ ht => ?_) ?_
  · rwa [(follows_handPart _ q t hq).unit (notRampOut t ht)]
  · have handed : handSetBreaker (s.sampleNews x).setBreaker t = setSettlesClosed (raiseIf true .breaker t) := by
      rw [sampleNews_set x s hr, hpair]
      simp [handSetBreaker, AuxPair.reading, BreakerView.news, BreakerNews.any, hsettles]
    rw [handPart, handed]
    exact (setSettlesClosed_ontoBus (raiseIf true .breaker t) (by simpa [hctl] using hw) (by simpa using ht)).of_kept
      (by simp) (by simp) (flagsKept_handGroupBreakers _ _)
  · have follows := follows_handPart (s.sampleNews x) q t hq
    exact ht.of_kept (follows.unit (by simp [ht.1])) (handPart_demand _ q t hq) follows.flags
  · rwa [takeSample_unit x s (notRampOut s hu)]

omit hr in
/-- A sample in no measure FAULT at a station whose BIAS-VALID follows R64 leaves the load-share unit as it takes its own
changes (R64). -/
theorem takeSample_ls_of_biasOk (hb : biasOk s) (hm : s.intake.measure ≠ .fault) : (takeSample x s).ls = s.ls := by
  have hbias := hb.1
  rw [takeSample, refreshBiasNow_eq_self]
  · simp
  · simp only [raiseIf_ls, State.setIntake_ls, hbias]
    simp [State.biasLevel, State.isGenset, State.intakeAfter, hm]

/-- A genset station's hand-off other than the breakers' changes neither the load-share unit nor the link where the sample sets no
UF and ends no FAULT (R11). -/
theorem handPart_quiet (q : SamplePart) (t : State) (hq : q ≠ .breakers) (hm : s.intake.measure ≠ .fault)
    (huf : (s.sampleNews x).ufSet = false) (hctl : t.ctl = s.ctl) :
    (handPart (s.sampleNews x) q t).ls = t.ls ∧ (handPart (s.sampleNews x) q t).link = t.link := by
  cases q with
  | breakers => exact absurd rfl hq
  | tie =>
    have hm' : ¬ (s.sampleNews x).measureBefore = .fault := hm
    simp [handPart, sampleNews_tie_genset x s hr, hm']
  | ufShed => simp [handPart, huf]
  | ufTrigger => simp [handPart, huf]
  | dead =>
    have hf : t.isFeeder = false := isFeeder_of_genset t (by rw [hctl]; exact hr)
    simp [handPart, deadEntry, hf]
  | row => simp [handPart]

/-- A sample in which the set breaker settles OPEN at the station's own TRIP takes the set off the bus (R76). -/
theorem acceptSample_ownTrip (hpair : x.setAux = { a := false, b := true })
    (hsettles : s.intake.setBreaker.settled ≠ .opened) (hu : s.ls.unit.onBus = true) (ht : s.ls.trip = true) (hb : biasOk s)
    (hm : s.intake.measure ≠ .fault) (huf : (s.sampleNews x).ufSet = false) :
    OffByOwnTrip s.link.alerts (acceptSample x order s) := by
  refine acceptSample_through x order s .breakers (fun t => t.ls = s.ls ∧ t.link = s.link) (OffByOwnTrip s.link.alerts)
    (fun t q hq hctl hI => ?_) (fun t _ _ hI => ?_) (fun t q hq hctl hJ => ?_)
    ⟨takeSample_ls_of_biasOk x s hb hm, by simp⟩
  · obtain ⟨hls, hlink⟩ := handPart_quiet x s hr q t hq hm huf hctl
    exact ⟨hls.trans hI.1, hlink.trans hI.2⟩
  · obtain ⟨hls, hlink⟩ := hI
    have handed : handSetBreaker (s.sampleNews x).setBreaker t = setSettlesOpen (raiseIf true .breaker t) := by
      rw [sampleNews_set x s hr, hpair]
      simp [handSetBreaker, AuxPair.reading, BreakerView.news, BreakerNews.any, hsettles]
    have opened := setSettlesOpen_ownTrip (raiseIf true .breaker t) (by simpa [hls] using hu) (by simpa [hls] using ht)
    rw [raiseIf_link, hlink] at opened
    rw [handPart, handed]
    exact opened.of_kept (by simp) (by simp) (flagsKept_handGroupBreakers _ _)
  · obtain ⟨hls, hlink⟩ := handPart_quiet x s hr q t hq hm huf hctl
    exact hJ.of_kept hls hlink (flagsKept_handPart _ q t)

/-- The set breaker's news raise BREAKER in whatever order the hand-offs are taken (R11). -/
theorem flagOf_acceptSample_set (h : breakerNews x.setAux s.intake.setBreaker) :
    flagOf (acceptSample x order s) .breaker = true := by
  refine flagOf_acceptSample x order s .breakers .breaker fun t => ?_
  refine flagsKept_handGroupBreakers _ _ _ (flagOf_handSetBreaker _ t ?_)
  rw [sampleNews_set x s hr]
  exact (news_any_iff _ _).2 h

end GensetSample

section FeederSample

variable (x : Sample) (order : List SamplePart) (s : State)

/-- Where a sample leaves the cut rank, its breakers' news are all that changes the groups (R100). -/
theorem acceptSample_groups (h : (acceptSample x order s).shed.cut = s.shed.cut) (g : GroupNo) :
    (acceptSample x order s).shed.groups[g] = s.shed.groups[g].afterNews (s.sampleNews x).groupBreakers[g] := by
  have kept (G : Vector Group 8) (q : SamplePart) (t : State) (hq : q ≠ .breakers)
      (ht : (t.shed.cut = s.shed.cut ∧ t.shed.groups = G) ∨ s.shed.cut < t.shed.cut) :
      ((handPart (s.sampleNews x) q t).shed.cut = s.shed.cut ∧ (handPart (s.sampleNews x) q t).shed.groups = G) ∨
        s.shed.cut < (handPart (s.sampleNews x) q t).shed.cut := by
    rcases (follows_handPart (s.sampleNews x) q t hq).cut with ⟨hc, hg, _⟩ | ⟨hc, _⟩
    · rwa [hc, hg]
    · rcases ht with ⟨ht, _⟩ | ht <;> exact .inr (by omega)
  have run := acceptSample_through x order s .breakers
    (fun t => (t.shed.cut = s.shed.cut ∧ t.shed.groups = s.shed.groups) ∨ s.shed.cut < t.shed.cut)
    (fun t => (t.shed.cut = s.shed.cut ∧ t.shed.groups =
      Vector.ofFn (fun g : GroupNo => s.shed.groups[g].afterNews (s.sampleNews x).groupBreakers[g])) ∨
        s.shed.cut < t.shed.cut)
    (fun t q hq _ ht => kept _ q t hq ht) (fun t _ _ ht => ?_) (fun t q hq _ ht => kept _ q t hq ht) (.inl (by simp))
  · rcases run with ⟨_, hgroups⟩ | hlt
    · simp [hgroups]
    · omega
  · rw [handPart, handGroupBreakers_shed, handSetBreaker_shed]
    rcases ht with ⟨hc, hg⟩ | hc
    · exact .inl ⟨hc, by simp only [hg]⟩
    · exact .inr hc

variable (hr : s.ctl.straps.role = .feeder)

theorem sampleNews_group (g : GroupNo) (hp : s.groupPresent g = true) :
    (s.sampleNews x).groupBreakers[g] = s.intake.groupBreakers[g].news x.groupAux[g].reading := by
  simpa [State.sampleNews] using fun h => absurd hp (by simp [h])

/-- A present group's breaker news raise GROUP in whatever order the hand-offs are taken (R11). -/
theorem flagOf_acceptSample_group (g : GroupNo) (hp : s.groupPresent g = true)
    (h : breakerNews x.groupAux[g] s.intake.groupBreakers[g]) : flagOf (acceptSample x order s) .group = true := by
  refine flagOf_acceptSample x order s .breakers .group fun t => flagOf_handGroupBreakers _ _ g ?_
  rw [sampleNews_group x s g hp]
  exact (news_any_iff _ _).2 h

include hr

theorem sampleNews_tie (ht : s.ctl.cfg.tieReporter = true) :
    (s.sampleNews x).tieBreaker = s.intake.tieBreaker.news x.tieAux.reading := by
  simp [State.sampleNews, (isFeeder_iff s).2 hr, ht]

/-- The tie breaker's news raise BREAKER, and the tie state held in the end is the one derived (R11, R44). -/
theorem acceptSample_tie (ht : s.ctl.cfg.tieReporter = true) (h : breakerNews x.tieAux s.intake.tieBreaker) :
    flagOf (acceptSample x order s) .breaker = true ∧
    (acceptSample x order s).view.tieClosed = (acceptSample x order s).derivedTie := by
  have any : (s.sampleNews x).tieBreaker.any = true := by
    rw [sampleNews_tie x s hr ht]; exact (news_any_iff _ _).2 h
  have handed (t : State) : handPart (s.sampleNews x) .tie t = deriveTieNow (raise .breaker t) := by
    simp [handPart, any, raiseIf]
  constructor
  · refine flagOf_acceptSample x order s .tie .breaker fun t => ?_
    rw [handed]
    exact (follows_deriveTieNow _).flags _ (by simp)
  · refine acceptSample_through x order s .tie (fun _ => True) (fun t => t.view.tieClosed = t.derivedTie)
      (fun _ _ _ _ _ => trivial) (fun t _ _ _ => ?_) (fun t q hq _ hJ => ?_) trivial
    · rw [handed]; exact deriveTieNow_holds _
    · rw [handPart_view _ q t hq, hJ]
      exact (derivedTie_congr (by simp) (by simp) (handPart_peers _ q t)).symm

end FeederSample

/-- A set UF, or a frequency at or above f_uf, sets no UF (R13). -/
theorem sampleNews_ufSet_false (x : Sample) (s : State) (h : s.intake.uf = true ∨ s.ctl.cfg.fUf ≤ x.f) :
    (s.sampleNews x).ufSet = false := by
  cases huf : s.intake.uf with
  | true => simp [State.sampleNews, huf]
  | false =>
    have hf : s.ctl.cfg.fUf ≤ x.f := by simpa [huf] using h
    simp [State.sampleNews, State.intakeAfter, huf, detectUf_zeros_clear _ _ _ hf]

/-- Settles O22: the hand-off of the breakers does it, and the hand-offs before and after it leave it be. -/
theorem sampleReadsSetBreaker : Obligations.SampleReadsSetBreaker := by
  unfold Obligations.SampleReadsSetBreaker
  constructor
  · intro bytes order s x ha hr hx
    have hg := (isGenset_iff s).2 hr
    have hf := isFeeder_of_genset s hr
    refine ⟨_, exec_sampleArrival bytes order s x ha (by rw [hr]; exact hx), ?_, ?_, ?_, flagOf_acceptSample_set x order s hr,
      acceptSample_ontoBus x order s hr,
      fun hpair hsettles hu ht hb hm huf =>
        acceptSample_ownTrip x order s hr hpair hsettles hu ht hb hm (sampleNews_ufSet_false x s huf)⟩ <;>
      rw [acceptSample_intake]
    · simpa [State.intakeAfter, hg] using breakerRead_read x.setAux s.intake.setBreaker
    · ext1 g hlt
      simp [State.intakeAfter, State.groupPresent, hf]
    · simp [State.intakeAfter, hf]
  · intro bytes order s x ha hr hx
    have hg := isGenset_of_feeder s hr
    have hf := (isFeeder_iff s).2 hr
    refine ⟨_, exec_sampleArrival bytes order s x ha (by rw [hr]; exact hx), ?_,
      fun g => ⟨fun hp => ?_, fun hp => ⟨?_, flagOf_acceptSample_group x order s g hp, fun hcut hstate => ?_⟩⟩, fun ht => ?_,
      fun ht => ⟨?_, acceptSample_tie x order s hr ht⟩⟩
    · rw [acceptSample_intake]; simp [State.intakeAfter, hg]
    · rw [acceptSample_intake]; simpa [State.intakeAfter] using fun h => absurd hp (by simp [h])
    · rw [acceptSample_intake]
      have read := breakerRead_read x.groupAux[g] s.intake.groupBreakers[g]
      simpa [State.intakeAfter, hp] using read
    · rw [acceptSample_groups x order s hcut g, sampleNews_group x s g hp]
      exact afterNews_table x.groupAux[g] s.intake.groupBreakers[g] s.shed.groups[g] hstate
    · rw [acceptSample_intake]; simp [State.intakeAfter, ht]
    · rw [acceptSample_intake]
      simpa [State.intakeAfter, hf, ht] using breakerRead_read x.tieAux s.intake.tieBreaker

end Machine
end Sys2Proof

/-! Proofs. A microsecond with no command waiting, the rounded means, and the work of a share-timer expiry (R4, R144, R154). -/

namespace Sys2Proof
namespace Machine

open Safety

/-! ### A microsecond with no command waiting (log entries 2, 3) -/

section Advance

variable (s : State)

@[simp] theorem advance_ctl : (advance s).ctl = { s.ctl with shareTimer := tickTimer s.ctl.shareTimer } := rfl
@[simp] theorem advance_intake : (advance s).intake = s.intake.tick := rfl
@[simp] theorem advance_link : (advance s).link = s.link.tick := rfl
@[simp] theorem advance_view : (advance s).view = s.view := rfl
@[simp] theorem advance_ls : (advance s).ls = s.ls.tick := rfl
@[simp] theorem advance_demand : (advance s).demand = s.demand := rfl
@[simp] theorem advance_shed : (advance s).shed = s.shed.tick := rfl
@[simp] theorem advance_cap : (advance s).cap = s.cap.tick s.ctl.station.active := rfl
@[simp] theorem advance_port : (advance s).port = { s.port with pulse := tickTimer s.port.pulse } := rfl

/-- The timers advance; what then falls due joins the queue, and a free choice is taken where something does. -/
theorem idle_eq :
    idle s =
      if dueEvents s (advance s) = [] then advance s
      else { advance s with
        pending := (advance s).pending ++ raceOrder s.freeIndex (dueEvents s (advance s))
        freeIndex := s.freeIndex + 1 } := rfl

/-- From an empty queue what falls due becomes the queue. -/
theorem idle_of_empty (h : s.pending = []) :
    ∃ queue choices, idle s = { advance s with pending := queue, freeIndex := choices } ∧
      queue = raceOrder s.freeIndex (dueEvents s (advance s)) ∧
      choices = if dueEvents s (advance s) = [] then s.freeIndex else s.freeIndex + 1 := by
  have hp : (advance s).pending = [] := h
  have hf : (advance s).freeIndex = s.freeIndex := rfl
  rw [idle_eq]
  by_cases hd : dueEvents s (advance s) = []
  · rw [if_pos hd, if_pos hd]
    exact ⟨(advance s).pending, (advance s).freeIndex, rfl, by rw [hp, hd]; rfl, hf⟩
  · rw [if_neg hd, if_neg hd]
    exact ⟨_, _, rfl, by rw [hp, List.nil_append], rfl⟩

/-- The fields of the link that a bit time leaves (R18). -/
theorem Link.tick_kept (l : Link) :
    l.tick.alerts = l.alerts ∧ l.tick.flight = l.flight ∧ l.tick.statePending = l.statePending ∧
    l.tick.stateInFlight = l.stateInFlight ∧ l.tick.errors = l.errors ∧ l.tick.outcome = l.outcome ∧
    l.tick.monitor = l.monitor ∧ l.tick.receiving = l.receiving := by
  unfold Link.tick
  split
  · simp
  · split <;> simp

/-- Outside a frame a bit time lies recessive and is counted up to twelve (R18). -/
theorem Link.tick_recessive (l : Link) :
    l.tick.recessive = if l.flight = none ∧ l.receiving = false then min (l.recessive + 1) 12 else l.recessive := by
  unfold Link.tick
  split
  · next h => simp [h]
  · next h => split <;> simp_all [Config.idleBits]

/-- The time tag's count leaves slots, ready list, counter and overflow flag (R123). -/
theorem Capture.tick_kept (active : Bool) (c : Capture) :
    (c.tick active).slots = c.slots ∧ (c.tick active).readyList = c.readyList ∧ (c.tick active).counter = c.counter ∧
    (c.tick active).overflow = c.overflow := by
  unfold Capture.tick
  split
  · simp
  · split
    · simp
    · split <;> simp

/-- A breaker in TRANSIT is due after a microsecond exactly when its timer reaches 100 ms with it (R10). -/
theorem transitDue_tick (b : BreakerView) :
    b.tick.transitDue = true ↔ b.decoded = .transit ∧ reaches 100000 b.transit := by
  have runs : reaches Config.transitUs b.transit → (tickTimer b.transit).isSome = true := by
    rintro ⟨n, hn, _⟩; simp [hn, tickTimer]
  simp only [BreakerView.transitDue, BreakerView.inTransit, BreakerView.tick, Bool.and_eq_true, timerDue_tick]
  exact ⟨fun ⟨⟨hd, _⟩, hr⟩ => ⟨of_decide_eq_true hd, hr⟩, fun ⟨hd, hr⟩ => ⟨⟨decide_eq_true hd, runs hr⟩, hr⟩⟩

/-- A SHEDDING group is due after a microsecond exactly when its timer reaches confirm_time with it (R101). -/
theorem confirmDue_advance (g : GroupNo) :
    (advance s).confirmDue g = true ↔
      s.shed.groups[g].state = .shedding ∧ reaches (1000 * s.ctl.cfg.confirmTime) s.shed.groups[g].confirm := by
  have due := timerDue_tick s.ctl.cfg.confirmUs s.shed.groups[g].confirm
  simpa [State.confirmDue, Shed.tick, Settings.confirmUs] using fun _ => due

/-- A station offers a frame exactly while an alert waits or the STATE slot is pending (R26). -/
theorem offer_isSome : s.offer.isSome = true ↔ s.link.alerts ≠ [] ∨ s.link.statePending = true := by
  unfold State.offer
  cases s.link.alerts with
  | nil => cases s.link.statePending <;> simp
  | cons a rest => simp

/-- The tag wraps with the microsecond that ends a millisecond at its greatest count (R123). -/
theorem wrapDue_iff :
    s.wrapDue = true ↔ s.ctl.station.active = true ∧ 1000 ≤ s.cap.tagMicros + 1 ∧ 2147483647 ≤ s.cap.tag := by
  simp only [State.wrapDue, Capture.milliEnds, Bool.and_eq_true, decide_eq_true_eq, and_assoc]
  rfl

/-- A frame starts in RUN or FALLBACK on an IDLE line with a frame to offer (R22). -/
theorem startDue_advance :
    (advance s).startDue = true ↔ s.ctl.station.transmits = true ∧ s.link.monitor = .idle ∧ s.link.flight = none ∧
      s.link.receiving = false ∧ (s.link.alerts ≠ [] ∨ s.link.statePending = true) := by
  obtain ⟨halerts, hflight, hpending, _, _, _, hmonitor, hreceiving⟩ := s.link.tick_kept
  simp [State.startDue, offer_isSome, halerts, hpending, hflight, hmonitor, hreceiving, and_assoc]

theorem mem_flatMap_dueIf (cond : GroupNo → Bool) (i : GroupNo → Instr) (x : Instr) :
    x ∈ groupNumbers.flatMap (fun g => dueIf (cond g) (i g)) ↔ ∃ g, cond g = true ∧ x = i g := by
  have every (g : GroupNo) : g ∈ groupNumbers := by fin_cases g <;> decide
  simp [List.mem_flatMap, mem_dueIf, every]

/-- The events due, each with its condition. -/
theorem mem_dueEvents (before s : State) (x : Instr) :
    x ∈ dueEvents before s ↔
      ((s.intake.measure = .good ∧ timerDue Config.measureHeldUs s.intake.measureTimer = true) ∧ x = .measureTimerHeld) ∨
      (timerDue Config.measureFaultUs s.intake.measureTimer = true ∧ x = .measureTimerFault) ∨
      (s.intake.setBreaker.transitDue = true ∧ x = .transitTimeout .set) ∨
      (∃ g : GroupNo, s.intake.groupBreakers[g].transitDue = true ∧ x = .transitTimeout (.group g)) ∨
      (s.intake.tieBreaker.transitDue = true ∧ x = .transitTimeout .tie) ∨
      (∃ g, s.confirmDue g = true ∧ x = .confirmTimeout g) ∨
      (timerDue Config.tripUs s.ls.tripTimer = true ∧ x = .tripTimeout) ∨
      (timerDue Config.stopPulseUs s.ls.stopTimer = true ∧ x = .stopPulseEnd) ∨
      (timerDue s.ctl.cfg.periodUs s.ctl.shareTimer = true ∧ x = .shareTimerExpiry (Config.expiryOrder s.freeIndex)) ∨
      (timerDue Config.pulseUs s.port.pulse = true ∧ x = .attentionPulseEnd) ∨
      ((s.link.monitor = .busy ∧ Config.idleBits ≤ s.link.recessive) ∧ x = .lineIdle) ∨
      (s.startDue = true ∧ x = .frameStart) ∨ (before.wrapDue = true ∧ x = .timeTagWrap) := by
  simp only [dueEvents, List.mem_append, mem_dueIf, mem_flatMap_dueIf, Bool.and_eq_true, decide_eq_true_eq, or_assoc]

end Advance

/-- The share period of each code (R144). -/
theorem periodUs_of_code (c : Settings) (us : Nat) (h : (c.period, us) ∈ [(0, 10000), (1, 20000), (2, 40000)]) :
    c.periodUs = us := by
  simp only [List.mem_cons, Prod.mk.injEq, List.not_mem_nil, or_false] at h
  rcases h with ⟨hp, rfl⟩ | ⟨hp, rfl⟩ | ⟨hp, rfl⟩ <;> simp [Settings.periodUs, hp]

/-- Settles O2: the timers one microsecond further, and each event due exactly at its own timer's time. -/
theorem emptyQueueAdvancesTimers : Obligations.EmptyQueueAdvancesTimers := by
  unfold Obligations.EmptyQueueAdvancesTimers
  intro s hempty
  obtain ⟨halerts, hflight, hpending, hinFlight, herrors, houtcome, hmonitor, hreceiving⟩ := s.link.tick_kept
  obtain ⟨hslots, hready, hcounter, hoverflow⟩ := s.cap.tick_kept s.ctl.station.active
  obtain ⟨queue, choices, hidle, hqueue, hchoices⟩ := idle_of_empty s hempty
  have perm : queue.Perm (dueEvents s (advance s)) := by rw [hqueue]; exact raceOrder_perm _ _
  have due (x : Instr) : x ∈ queue ↔ x ∈ dueEvents s (advance s) := perm.mem_iff
  refine ⟨_, by rw [step, hempty], ?_⟩
  rw [hidle]
  refine ⟨rfl, rfl, rfl, rfl, rfl, rfl, rfl, rfl, rfl, halerts, hflight, hpending, hinFlight, herrors, houtcome, hmonitor,
    rfl, rfl, rfl, rfl, fun g => by simp [Shed.tick, tickTimer], rfl, hslots, hready, hcounter, hoverflow,
    fun ha => by simp [Capture.tick, ha], rfl, hqueue, perm, hchoices, ?_, ?_, ?_, ?_, fun g => ⟨?_, ?_⟩, ?_, ?_,
    fun us hus => ?_, ?_, fun hf hr => ?_, fun hbusy => ?_, hreceiving, ?_, ?_, fun ha hm => ?_, fun ha hm ht => ?_, ?_⟩
  · simp [due, mem_dueEvents, Intake.tick, timerDue_tick, Config.measureHeldUs]
  · simp [due, mem_dueEvents, Intake.tick, timerDue_tick, Config.measureFaultUs]
  · simp [due, mem_dueEvents, Intake.tick, transitDue_tick]
  · simp [due, mem_dueEvents, Intake.tick, transitDue_tick]
  · simp [due, mem_dueEvents, Intake.tick, transitDue_tick]
  · simp [due, mem_dueEvents, confirmDue_advance]
  · simp [due, mem_dueEvents, LoadShare.tick, timerDue_tick, Config.tripUs]
  · simp [due, mem_dueEvents, LoadShare.tick, timerDue_tick, Config.stopPulseUs]
  · simp [due, mem_dueEvents, timerDue_tick, periodUs_of_code _ us hus]
  · simp [due, mem_dueEvents, timerDue_tick, Config.pulseUs]
  · simp [Link.tick_recessive, hf, hr]
  · have hb : ¬ (s.link.flight = none ∧ s.link.receiving = false) := by
      rintro ⟨hf, hr⟩; rcases hbusy with h | h <;> simp_all
    simp [Link.tick_recessive, hb]
  · simp [due, mem_dueEvents, hmonitor, Config.idleBits]
  · simp [due, mem_dueEvents, startDue_advance]
  · simp [Capture.tick, Capture.milliEnds, ha, Nat.not_le.2 hm]
  · simp [Capture.tick, Capture.milliEnds, ha, hm, Config.timeTagMax, ht]
  · simp [due, mem_dueEvents, wrapDue_iff]

/-! ### Rounded means (R4, spec 4.3) -/

theorem isRounded_neg (m sum : Int) (n : Nat) (h : IsRounded m sum n) : IsRounded (-m) (-sum) n := by
  have hdiff : |-m * n - -sum| = |m * n - sum| := by rw [← abs_neg]; congr 1; ring
  have hprod : |-m * n| = |m * n| := by rw [neg_mul, abs_neg]
  unfold IsRounded
  rwa [hdiff, hprod, abs_neg]

theorem isRounded_of_nonneg (sum : Int) (n : Nat) (hn : 1 ≤ n) (hs : 0 ≤ sum) :
    IsRounded ((2 * sum + n) / (2 * n)) sum n := by
  have hpos : (0 : Int) < 2 * n := by omega
  have lower := Int.mul_ediv_self_le (x := 2 * sum + n) (k := 2 * n) (by omega)
  have upper := Int.lt_mul_ediv_self_add (x := 2 * sum + n) (k := 2 * n) hpos
  generalize (2 * sum + n) / (2 * n) = m at lower upper
  have hm : 2 * n * m = 2 * (m * n) := by ring
  rw [hm] at lower upper
  unfold IsRounded
  generalize m * n = p at lower upper
  constructor
  · rcases abs_cases (p - sum) with ⟨h, _⟩ | ⟨h, _⟩ <;> omega
  · intro he
    rcases abs_cases (p - sum) with ⟨h, _⟩ | ⟨h, _⟩
    · rw [abs_of_nonneg hs, abs_of_nonneg (by omega)]; omega
    · omega

/-- The station's division rounds to the nearest integer, halves away from zero (spec 4.3). -/
theorem isRounded_roundDiv (sum : Int) (n : Nat) (hn : 1 ≤ n) : IsRounded (roundDiv sum n) sum n := by
  unfold roundDiv
  split
  · next hs => exact isRounded_of_nonneg sum n hn hs
  · next hs =>
    have h := isRounded_neg _ _ n (isRounded_of_nonneg (-sum) n hn (by omega))
    rwa [neg_neg] at h

/-! ### The work of an expiry (R144) -/

/-- After the test point no block reaches station control. -/
theorem expiryPart_ctl (tieChange : Bool) (part : ExpiryPart) (r : ExpiryRun) :
    (expiryPart tieChange part r).state.ctl = r.state.ctl := by
  cases part with
  | loadShare => simp [expiryPart, ExpiryRun.withState]
  | demand =>
    simp only [expiryPart, demandWork]
    split
    · split <;> simp [ExpiryRun.withState, ExpiryRun.note]
    · rfl
  | shed => simp [expiryPart, shedWork, ExpiryRun.withState]
  | link => simp [expiryPart, ExpiryRun.withState]

/-- After the test point no block reaches intake. -/
theorem expiryPart_intake (tieChange : Bool) (part : ExpiryPart) (r : ExpiryRun) :
    (expiryPart tieChange part r).state.intake = r.state.intake := by
  cases part with
  | loadShare => simp [expiryPart, ExpiryRun.withState]
  | demand =>
    simp only [expiryPart, demandWork]
    split
    · split <;> simp [ExpiryRun.withState, ExpiryRun.note]
    · rfl
  | shed => simp [expiryPart, shedWork, ExpiryRun.withState]
  | link => simp [expiryPart, ExpiryRun.withState]

/-- The test point moves the station state among LISTEN, RUN, FALLBACK and SILENT and sets the two counters; the rest of station
control stands (R147, R148, R149). -/
theorem testPoint_ctl (r : ExpiryRun) :
    ∃ st listen fallback, st.active = r.state.ctl.station.active ∧
      (testPoint r).state.ctl =
        { r.state.ctl with station := st, listenCount := listen, fallbackCount := fallback } := by
  cases h : r.state.ctl.station <;> simp only [testPoint, h]
  case listen =>
    split
    · exact ⟨.run, 0, _, rfl, by simp [ExpiryRun.note, enterRun]; rfl⟩
    · exact ⟨.listen, r.state.ctl.listenCount + 1, r.state.ctl.fallbackCount, rfl, by simp [ExpiryRun.withState, ← h]⟩
  case run =>
    split
    · exact ⟨.fallback, _, 0, rfl, by simp [ExpiryRun.withState, enterFallback, zeroNeedTimers]; rfl⟩
    · exact ⟨.run, _, _, rfl, by rw [← h]⟩
  case fallback =>
    split
    · split
      · exact ⟨.run, _, 0, rfl, by simp [ExpiryRun.note, returnToRun]; rfl⟩
      · exact ⟨.fallback, r.state.ctl.listenCount, r.state.ctl.fallbackCount + 1, rfl,
          by simp [ExpiryRun.withState, ← h]⟩
    · exact ⟨.fallback, r.state.ctl.listenCount, 0, rfl, by simp [ExpiryRun.withState, ← h]⟩
  all_goals exact ⟨_, _, _, rfl, by rw [← h]⟩

theorem testPoint_intake (r : ExpiryRun) : (testPoint r).state.intake = r.state.intake := by
  cases h : r.state.ctl.station <;> simp only [testPoint, h]
  case listen => split <;> simp [ExpiryRun.note, ExpiryRun.withState]
  case run => split <;> simp [ExpiryRun.withState]
  case fallback =>
    split
    · split <;> simp [ExpiryRun.note, ExpiryRun.withState]
    · simp [ExpiryRun.withState]

/-- Station control after the staged set has had its turn: every staged value taken with HOLD clear, nothing with HOLD set
(R154). -/
theorem applyStaged_ctl (s : State) :
    (applyStaged s).ctl =
      if s.ctl.hold = true then s.ctl
      else { s.ctl with
        cfg := { s.ctl.cfg with tun := s.ctl.staged.applyTo s.ctl.cfg.tun }, staged := Staged.empty } := by
  cases hh : s.ctl.hold with
  | true => simp [applyStaged, hh]
  | false =>
    by_cases hg : s.ctl.staged = Staged.empty
    · have same : s.ctl.staged.applyTo s.ctl.cfg.tun = s.ctl.cfg.tun := by rw [hg]; rfl
      rw [applyStaged, if_neg (fun h => h.2 hg), if_neg (by simp), same, ← hg]
    · simp only [applyStaged, hh, hg, ne_eq, not_false_iff, and_self, if_true]
      split
      · simp [takeStaged, hh]
      · split <;> simp [takeStaged, hh]

section Expiry

variable (order : List ExpiryPart) (s : State)

/-- Intake after an expiry: the means closed and the sums at zero (R4). -/
theorem expiryRun_intake :
    (expiryRun order s).state.intake = { s.intake with means := s.intake.closedMeans, sums := PeriodSums.zero } := by
  have run := foldl_keeps (fun r part => expiryPart (s.tieChangesTo (atTestPoint s)) part r)
    (fun r => r.state.intake = (atTestPoint s).intake) (fun r q h => (expiryPart_intake _ q r).trans h)
    (wholeOrder ExpiryPart.all order) (testPoint { state := atTestPoint s, events := [] }) (testPoint_intake _)
  rw [expiryRun, run]
  simp [atTestPoint, closePeriod]

/-- Station control after an expiry: the share timer from 0 and the staged set taken, the station state in LISTEN, RUN, FALLBACK
or SILENT as before, the counters set (R144, R154). -/
theorem expiryRun_ctl :
    ∃ st listen fallback, st.active = s.ctl.station.active ∧
      (expiryRun order s).state.ctl =
        { (applyStaged (s.setCtl { s.ctl with shareTimer := some 0 })).ctl with
          station := st, listenCount := listen, fallbackCount := fallback } := by
  have run := foldl_keeps (fun r part => expiryPart (s.tieChangesTo (atTestPoint s)) part r)
    (fun r => r.state.ctl = (testPoint { state := atTestPoint s, events := [] }).state.ctl)
    (fun r q h => (expiryPart_ctl _ q r).trans h)
    (wholeOrder ExpiryPart.all order) (testPoint { state := atTestPoint s, events := [] }) rfl
  have before : (atTestPoint s).ctl = (applyStaged (s.setCtl { s.ctl with shareTimer := some 0 })).ctl := by
    simp [atTestPoint]
  obtain ⟨st, listen, fallback, hactive, hctl⟩ := testPoint_ctl { state := atTestPoint s, events := [] }
  refine ⟨st, listen, fallback, ?_, by rw [expiryRun, run, hctl, before]⟩
  rw [hactive, before, applyStaged_ctl]
  split <;> rfl

/-- An expiry in LISTEN, RUN, FALLBACK or SILENT is its whole work; elsewhere it is no event (R144, log entry 9). -/
theorem exec_shareTimerExpiry :
    exec (.shareTimerExpiry order) s =
      .next (if s.ctl.station.active = true then (expiryRun order s).state else s) := rfl

end Expiry

/-- Each mean closed is its sum over n, rounded; with no sample the means stand (R4). -/
theorem closedMeans_spec (i : Intake) :
    (i.sums.n = 0 → i.closedMeans = i.means) ∧
    (1 ≤ i.sums.n →
      IsRounded i.closedMeans.p i.sums.p i.sums.n ∧ IsRounded i.closedMeans.q i.sums.q i.sums.n ∧
      IsRounded i.closedMeans.f i.sums.f i.sums.n ∧ IsRounded i.closedMeans.v i.sums.v i.sums.n ∧
      ∀ g : GroupNo, IsRounded i.closedMeans.loads[g] i.sums.loads[g] i.sums.n) := by
  refine ⟨fun h => by rw [Intake.closedMeans, if_pos h], fun h => ?_⟩
  rw [Intake.closedMeans, if_neg (by omega)]
  refine ⟨isRounded_roundDiv _ _ h, isRounded_roundDiv _ _ h, isRounded_roundDiv _ _ h, isRounded_roundDiv _ _ h,
    fun g => ?_⟩
  simpa using isRounded_roundDiv i.sums.loads[g] _ h

/-- Settles O27: the means are rounded as they are closed, and after the staged set no block reaches the tunables. -/
theorem expiryClosesPeriodAndAppliesStagedSet : Obligations.ExpiryClosesPeriodAndAppliesStagedSet := by
  unfold Obligations.ExpiryClosesPeriodAndAppliesStagedSet
  refine ⟨fun order s => ⟨fun ha => ?_, fun ha => ?_⟩, fun order s ha => ?_⟩
  · simp [exec_shareTimerExpiry, ha]
  · obtain ⟨hnone, hsome⟩ := closedMeans_spec s.intake
    obtain ⟨st, listen, fallback, _, hctl⟩ := expiryRun_ctl order s
    refine ⟨_, by rw [exec_shareTimerExpiry, if_pos ha], ?_, ?_⟩
    · rw [hctl, applyStaged_ctl]; split <;> rfl
    · rw [expiryRun_intake]
      exact ⟨rfl, rfl, rfl, hnone, hsome⟩
  · obtain ⟨st, listen, fallback, _, hctl⟩ := expiryRun_ctl order s
    refine ⟨_, by rw [exec_shareTimerExpiry, if_pos ha], ?_⟩
    unfold sameIdentity
    rw [hctl, applyStaged_ctl]
    cases hh : s.ctl.hold <;> simp [hh, Staged.applyTo]

end Machine
end Sys2Proof

/-! Proofs. Reset and STANDBY entry, block by block (R145, R160). -/

namespace Sys2Proof
namespace Machine

open Safety

/-! ### Reset (R141, R160) -/

/-- Settles O4, block by block; INIT stands in LEVEL mode (log entry 12). -/
theorem resetStateIsSound : Obligations.ResetStateIsSound := by
  unfold Obligations.ResetStateIsSound
  have transmit : transmitOk State.reset := ⟨by decide, by decide⟩
  have quiet : quietOk State.reset := fun _ => ⟨rfl, rfl, rfl, rfl, rfl, rfl⟩
  have bias : biasOk State.reset := ⟨rfl, fun _ => ⟨rfl, rfl⟩⟩
  have range : biasRange State.reset := by unfold biasRange; decide
  have outputs : outputsOk State.reset := by unfold outputsOk; decide
  have shed : shedOk State.reset := by unfold shedOk; decide
  have capture : captureOk State.reset := by unfold captureOk; decide
  have peers : peersOk State.reset := ⟨List.Pairwise.nil, fun e he => absurd he (List.not_mem_nil)⟩
  have measure : measureOk State.reset := ⟨fun _ => rfl, fun _ => rfl⟩
  have attention : attentionOk State.reset := ⟨fun _ => rfl, fun _ => ⟨by decide, rfl⟩⟩
  exact ⟨transmit, quiet, bias, range, outputs, shed, capture, peers, measure, attention, rfl⟩

/-- What a cut store operation leaves of the stored record and the locked mark (R159). -/
theorem afterCut_cases (c : Control) (cut : StoreCut) :
    match cut, c.store with
    | .after, .writing rec => c.afterCut cut = (rec ++ crcBytes rec, c.locked)
    | .after, .locking => c.afterCut cut = (c.stored, true)
    | .after, .idle => c.afterCut cut = (c.stored, c.locked)
    | .before, _ => c.afterCut cut = (c.stored, c.locked) := by
  unfold Control.afterCut
  cases cut <;> cases c.store <;> rfl

/-- The blocks after a reset (R160). -/
theorem resetStation_blocks (pins : Straps) (cut : StoreCut) (s : State) :
    (resetStation pins cut s).ctl = Control.reset pins (s.ctl.afterCut cut).1 (s.ctl.afterCut cut).2 ∧
    (resetStation pins cut s).intake = Intake.reset ∧ (resetStation pins cut s).link = Link.reset ∧
    (resetStation pins cut s).view = View.reset pins (Settings.faultSet pins.role pins.sect) ∧
    (resetStation pins cut s).demand = Demand.reset ∧ (resetStation pins cut s).shed = Shed.reset ∧
    (resetStation pins cut s).cap = Capture.reset ∧ (resetStation pins cut s).port = s.port.atReset := by
  simp [resetStation, Control.reset]

/-- The load-share unit after a reset: the record of INIT is sent on a genset station (R80, R83). -/
theorem resetStation_ls (pins : Straps) (cut : StoreCut) (s : State) :
    (resetStation pins cut s).ls = { LoadShare.reset with
      actuator := if pins.role = .genset then { speedBias := 0, voltBias := 0, biasValid := false } else s.ls.actuator
      actuatorSent := if pins.role = .genset then s.ls.actuatorSent + 1 else s.ls.actuatorSent } := by
  cases hr : pins.role <;> simp [resetStation, sendActuator, State.isGenset, Control.reset, hr, LoadShare.reset]

/-- Settles O19, block by block; a cut store operation by its two ends. -/
theorem resetSetsEveryBlock : Obligations.ResetSetsEveryBlock := by
  unfold Obligations.ResetSetsEveryBlock
  refine ⟨fun pins s h => if_pos h, fun pins cut s => ⟨_, rfl, ?_⟩⟩
  obtain ⟨hctl, hintake, hlink, hview, hdemand, hshed, hcap, hport⟩ := resetStation_blocks pins cut s
  rw [hctl, hintake, hlink, hview, hdemand, hshed, hcap, hport, resetStation_ls]
  refine ⟨rfl, rfl, rfl, rfl, rfl, rfl, rfl, rfl, rfl, rfl, rfl, rfl, rfl, rfl, rfl, rfl, rfl, rfl, rfl, rfl, rfl, rfl, rfl,
    rfl, rfl, rfl, rfl, rfl, rfl, rfl, rfl, rfl, rfl, rfl, rfl, rfl, rfl, rfl, rfl, rfl, rfl, rfl, rfl, rfl, rfl,
    fun g => by simp [Shed.reset, Group.absentGroup], ?_, ?_, by simp, by simp⟩
  · cases hp : s.port.phase <;> simp [Port.atReset, Port.reset, hp]
  · have stored := afterCut_cases s.ctl cut
    cases cut <;> cases hs : s.ctl.store <;> rw [hs] at stored <;>
      exact ⟨congrArg Prod.fst stored, congrArg Prod.snd stored⟩

/-! ### STANDBY entry (R145) -/

/-- Capture at STANDBY entry: the active slot's fate by what it holds (R138). -/
theorem standbyCapture_cap (s : State) :
    (s.cap.activeSlot = none → (standbyCapture s).cap = s.cap) ∧
    (∀ i ring, s.cap.activeSlot = some i → s.cap.slots[i] = .armed ring →
      (standbyCapture s).cap = s.cap.setSlot i .free) ∧
    (∀ i rec, s.cap.activeSlot = some i → s.cap.slots[i] = .post rec →
      (standbyCapture s).cap = s.cap.close i rec.cutShort) := by
  refine ⟨fun h => ?_, fun i ring h hs => ?_, fun i rec h hs => ?_⟩
  · simp [standbyCapture, h]
  · simp only [standbyCapture, h, hs]; rfl
  · simp only [standbyCapture, h, hs]; rfl

/-- STANDBY entry leaves each slot that is not active (R138). -/
theorem standbyCapture_inactive (s : State) (j : SlotNo) (hj : s.cap.slots[j].active = false) :
    (standbyCapture s).cap.slots[j] = s.cap.slots[j] := by
  obtain ⟨hnone, harmed, hpost⟩ := standbyCapture_cap s
  cases h : s.cap.activeSlot with
  | none => rw [hnone h]
  | some i =>
    have hi := activeSlot_active s.cap i h
    have hne : ¬ i.val = j.val := fun he => by rw [Fin.ext he, hj] at hi; exact absurd hi (by decide)
    cases hs : s.cap.slots[i] with
    | free => simp [hs, Slot.active] at hi
    | ready rec => simp [hs, Slot.active] at hi
    | armed ring => rw [harmed i ring h hs]; simp [Capture.setSlot, hne]
    | post rec => rw [hpost i rec h hs]; simp [Capture.close, hne]

/-- STANDBY entry raises RECORD-READY exactly where a POST slot closes (R138). -/
theorem flagOf_standbyCapture (s : State) (f : ChangeFlag) :
    (f ≠ .recordReady → flagOf (standbyCapture s) f = flagOf s f) ∧
    ((∀ (i : SlotNo) (rec : Record), s.cap.slots[i] ≠ .post rec) → flagOf (standbyCapture s) f = flagOf s f) ∧
    (∀ i rec, s.cap.activeSlot = some i → s.cap.slots[i] = .post rec →
      flagOf (standbyCapture s) .recordReady = true) := by
  have setCap (x : Capture) (f : ChangeFlag) : flagOf (s.setCap x) f = flagOf s f := rfl
  refine ⟨fun hf => ?_, fun hnone => ?_, fun i rec h hs => ?_⟩
  · unfold standbyCapture
    split
    · rfl
    · split
      · rfl
      · rfl
      · rfl
      · rw [flagOf_raise, setCap, decide_eq_false (Ne.symm hf), Bool.or_false]
  · unfold standbyCapture
    split
    · rfl
    · next i _ =>
      split
      · rfl
      · rfl
      · rfl
      · next rec hs => exact absurd hs (hnone i rec)
  · simp [standbyCapture, h, hs]

/-- The handed READY value's fall raises at most ENGINE-READY (R12, log entry 14). -/
theorem flagOf_standbyReady (s : State) (f : ChangeFlag) (h : f ≠ .engineReady ∨ s.intake.ready = false) :
    flagOf (standbyReady s) f = flagOf s f := by
  unfold standbyReady
  rw [flagOf_raiseIf]
  rcases h with h | h
  · rw [decide_eq_false (Ne.symm h), Bool.and_false, Bool.or_false]
  · simp [h]

section StandbyEntry

variable (s : State)

theorem enterStandbyState_ctl : (enterStandbyState s).ctl = s.ctl.standby := by simp [enterStandbyState]

theorem enterStandbyState_intake : (enterStandbyState s).intake = Intake.reset := by simp [enterStandbyState]

theorem enterStandbyState_link : (enterStandbyState s).link = { s.link.silenced with receiving := false } := by
  simp [enterStandbyState]

theorem enterStandbyState_demand : (enterStandbyState s).demand = s.demand.standby := by simp [enterStandbyState]

theorem enterStandbyState_shed : (enterStandbyState s).shed = s.shed.standby := by simp [enterStandbyState]

/-- Capture at STANDBY entry: the active slot's fate by what it holds, every other slot as it was (R138). -/
theorem enterStandbyState_cap :
    (s.cap.activeSlot = none → (enterStandbyState s).cap = s.cap) ∧
    (∀ i ring, s.cap.activeSlot = some i → s.cap.slots[i] = .armed ring →
      (enterStandbyState s).cap = s.cap.setSlot i .free) ∧
    (∀ i rec, s.cap.activeSlot = some i → s.cap.slots[i] = .post rec →
      (enterStandbyState s).cap = s.cap.close i rec.cutShort) ∧
    (∀ i : SlotNo, s.cap.slots[i].active = false → (enterStandbyState s).cap.slots[i] = s.cap.slots[i]) := by
  have entered : (enterStandbyState s).cap = (standbyCapture (standbyReady s)).cap := by simp [enterStandbyState]
  obtain ⟨hnone, harmed, hpost⟩ := standbyCapture_cap (standbyReady s)
  have inactive := standbyCapture_inactive (standbyReady s)
  rw [entered]
  simp only [standbyReady_cap] at hnone harmed hpost inactive
  exact ⟨hnone, harmed, hpost, inactive⟩

/-- The flags at STANDBY entry: RECORD-READY where a POST slot closes, ENGINE-READY only where READY stood asserted, and no other
(R12, R138, log entries 14 and 38). -/
theorem flagOf_enterStandbyState :
    (∀ i rec, s.cap.activeSlot = some i → s.cap.slots[i] = .post rec →
      flagOf (enterStandbyState s) .recordReady = true) ∧
    ((∀ (i : SlotNo) (rec : Record), s.cap.slots[i] ≠ .post rec) →
      flagOf (enterStandbyState s) .recordReady = flagOf s .recordReady) ∧
    (s.intake.ready = false → flagOf (enterStandbyState s) .engineReady = flagOf s .engineReady) ∧
    (∀ f : ChangeFlag, f ≠ .recordReady → f ≠ .engineReady → flagOf (enterStandbyState s) f = flagOf s f) := by
  have entered (f : ChangeFlag) : flagOf (enterStandbyState s) f = flagOf (standbyCapture (standbyReady s)) f :=
    flagOf_congr (by simp [enterStandbyState]) f
  have slots : (standbyReady s).cap = s.cap := standbyReady_cap s
  refine ⟨fun i rec h hs => ?_, fun h => ?_, fun h => ?_, fun f hf he => ?_⟩ <;> rw [entered]
  · exact (flagOf_standbyCapture (standbyReady s) .recordReady).2.2 i rec (by rw [slots, h]) (by rw [slots, hs])
  · rw [(flagOf_standbyCapture (standbyReady s) _).2.1 (by rw [slots]; exact h), flagOf_standbyReady _ _ (.inl (by decide))]
  · rw [(flagOf_standbyCapture (standbyReady s) _).1 (by decide), flagOf_standbyReady _ _ (.inr h)]
  · rw [(flagOf_standbyCapture (standbyReady s) f).1 hf, flagOf_standbyReady _ _ (.inl he)]

/-- The island view at STANDBY entry: an empty table, the tie OPEN, the sums of R55 (R42). -/
theorem enterStandbyState_view :
    (enterStandbyState s).view.peers = [] ∧ (enterStandbyState s).view.ownReported = true ∧
    (enterStandbyState s).view.tieClosed = false ∧
    ∃ groups gensets, (enterStandbyState s).view.sums = IslandSums.initial groups gensets := by
  have entered (w : State) (v : View) : (sendActuator (w.setView v)).view = v := by simp
  unfold enterStandbyState
  rw [entered]
  exact ⟨rfl, rfl, rfl, _, _, rfl⟩

/-- The load-share unit at STANDBY entry, with the record a genset station sends (R80, R82). -/
theorem enterStandbyState_ls :
    (enterStandbyState s).ls = { s.ls.standby with
      actuator := if s.isGenset then { speedBias := 0, voltBias := 0, biasValid := false } else s.ls.actuator
      actuatorSent := if s.isGenset then s.ls.actuatorSent + 1 else s.ls.actuatorSent } := by
  cases hr : s.isGenset <;> unfold State.isGenset at hr <;>
    simp [enterStandbyState, sendActuator, State.isGenset, Control.standby, hr, LoadShare.standby, LoadShare.clearRamp,
      LoadShare.dropBias]

end StandbyEntry

/-- ENTER-STANDBY is accepted outside INIT, in a select period of its own (R145, R162). -/
theorem exec_enterStandby (s : State) (hr : noRestart s) (hi : s.ctl.station ≠ .init) :
    exec (.enterStandby []) s =
      .next (answerWith .accepted [] .plain (standbyEffect (s.setPort { s.port with phase := .waiting }))) := by
  have judged : judge 0x0E [] (endSelect s) = .accepted := by
    rw [endSelect_eq s hr, judge, if_neg (by simpa using hi)]
    rfl
  rw [exec, execEnterStandby, serve, answerCommand_accepted 0x0E [] _ .enterStandby judged rfl, accept, endSelect_eq s hr]
  rfl

/-- Settles O55, block by block; capture and the flags by what the active slot holds. -/
theorem enterStandbyTakesStandbyValues : Obligations.EnterStandbyTakesStandbyValues := by
  unfold Obligations.EnterStandbyTakesStandbyValues
  refine fun s hr => ⟨fun ha => ?_, fun hs => ?_⟩
  · have hi : s.ctl.station ≠ .init := fun h => by rw [h] at ha; exact absurd ha (by decide)
    have entered : standbyEffect (s.setPort { s.port with phase := .waiting }) =
        enterStandbyState (s.setPort { s.port with phase := .waiting }) := if_pos ha
    refine ⟨_, exec_enterStandby s hr hi, ⟨rfl, rfl⟩, ?_⟩
    rw [entered]
    obtain ⟨hpeers, hown, htie, groups, gensets, hsums⟩ :=
      enterStandbyState_view (s.setPort { s.port with phase := .waiting })
    obtain ⟨hnone, harmed, hpost, hinactive⟩ := enterStandbyState_cap (s.setPort { s.port with phase := .waiting })
    obtain ⟨fpost, fother, fready, frest⟩ := flagOf_enterStandbyState (s.setPort { s.port with phase := .waiting })
    refine ⟨enterStandbyState_ctl _, enterStandbyState_intake _, enterStandbyState_link _, hpeers, hown, htie, ?_, ?_, ?_, ?_,
      ?_, ?_, ?_, ?_, enterStandbyState_ls _, enterStandbyState_demand _, ?_, fun g => ?_, hnone, harmed,
      fun i rec h hp => ⟨hpost i rec h hp, fpost i rec h hp⟩, hinactive, fother, fready, frest⟩
    iterate 8 (rw [answerWith_view, hsums]; rfl)
    · rw [answerWith_shed, enterStandbyState_shed]; rfl
    · rw [answerWith_shed, enterStandbyState_shed]; simp [Shed.standby]
  · have hi : s.ctl.station ≠ .init := by rw [hs]; decide
    have unchanged : standbyEffect (s.setPort { s.port with phase := .waiting }) =
        s.setPort { s.port with phase := .waiting } := if_neg (by simp [hs, StationState.active])
    refine ⟨_, exec_enterStandby s hr hi, ⟨rfl, rfl⟩, ?_⟩
    rw [unchanged]
    exact ⟨⟨rfl, rfl, rfl, rfl, rfl⟩, by simp [Kept]⟩

end Machine
end Sys2Proof

/-! Proofs. The measure timer and the share timer through every command and every step (R6, R7, R144, R145). -/

namespace Sys2Proof
namespace Machine

open Safety

/-! ### The measure timer and the share timer through every step (R6, R7, R144, R145) -/

/-- The measure timer runs exactly outside FAULT and the share timer exactly in LISTEN, RUN, FALLBACK and SILENT. -/
def TimerLaw (s : State) : Prop := measureOk s ∧ shareTimerOk s

/-- The same timers run in `t` as in `s`, in the same measure state, in a working state or out of one as before. -/
structure TimersKept (s t : State) : Prop where
  timer : t.intake.measureTimer.isSome = s.intake.measureTimer.isSome
  measure : t.intake.measure = s.intake.measure
  share : t.ctl.shareTimer.isSome = s.ctl.shareTimer.isSome
  active : t.ctl.station.active = s.ctl.station.active

theorem TimersKept.refl (s : State) : TimersKept s s := ⟨rfl, rfl, rfl, rfl⟩

theorem TimersKept.trans {s t u : State} (h : TimersKept s t) (k : TimersKept t u) : TimersKept s u :=
  ⟨k.timer.trans h.timer, k.measure.trans h.measure, k.share.trans h.share, k.active.trans h.active⟩

/-- What touches neither station control nor intake keeps the timers. -/
theorem TimersKept.of_eq {s t : State} (hctl : t.ctl = s.ctl) (hintake : t.intake = s.intake) : TimersKept s t := by
  constructor <;> simp only [hctl, hintake]

/-- A move between two of LISTEN, RUN, FALLBACK and SILENT keeps the timers. -/
theorem TimersKept.of_moved {s t : State} (hintake : t.intake = s.intake) (hshare : t.ctl.shareTimer = s.ctl.shareTimer)
    (hs : s.ctl.station.active = true) (ht : t.ctl.station.active = true) : TimersKept s t :=
  ⟨by rw [hintake], by rw [hintake], by rw [hshare], ht.trans hs.symm⟩

theorem TimerLaw.of_kept {s t : State} (h : TimerLaw s) (k : TimersKept s t) : TimerLaw t := by
  obtain ⟨hm, hs⟩ := h
  constructor
  · have same : t.intake.measureTimer = none ↔ s.intake.measureTimer = none := by
      simp only [← Option.not_isSome_iff_eq_none, k.timer]
    unfold measureOk
    rw [same, k.measure]
    exact hm
  · exact k.share.trans (hs.trans k.active.symm)

theorem TimerLaw.of_eq {s t : State} (h : TimerLaw s) (hctl : t.ctl = s.ctl) (hintake : t.intake = s.intake) :
    TimerLaw t :=
  h.of_kept (.of_eq hctl hintake)

/-- Every next state of an answer meets the law. -/
def Timed (a : Answer) : Prop := ∀ t, a = .next t → TimerLaw t

theorem timed_next {t : State} (h : TimerLaw t) : Timed (.next t) := fun u e => by cases e; exact h

/-- An event where its condition holds, and no event elsewhere (log entry 9). -/
theorem timed_ite {p : Prop} [Decidable p] {t s : State} (hs : TimerLaw s) (ht : p → TimerLaw t) :
    Timed (if p then .next t else .next s) := by
  split
  · next hp => exact timed_next (ht hp)
  · exact timed_next hs

/-! ### Intake's own commands -/

theorem timed_sampleArrival (bytes : List Byte) (order : List SamplePart) (s : State) (h : TimerLaw s) :
    Timed (exec (.sampleArrival bytes order) s) := by
  by_cases ha : s.ctl.station.active = true
  · cases hx : parseSample s.ctl.straps.role bytes with
    | none => simpa [exec, execSampleArrival, hx] using timed_next h
    | some x =>
      rw [exec_sampleArrival bytes order s x ha hx]
      refine timed_next ⟨?_, ?_⟩
      · unfold measureOk
        rw [acceptSample_intake]
        simp [State.intakeAfter]
      · unfold shareTimerOk
        rw [acceptSample_ctl]
        exact h.2
  · simpa [exec, execSampleArrival, ha] using timed_next h

theorem timed_measureTimerHeld (s : State) (h : TimerLaw s) : Timed (exec .measureTimerHeld s) := by
  refine timed_ite h fun ⟨hdue, _⟩ => ⟨?_, h.2⟩
  have runs : s.intake.measureTimer ≠ none := fun hn => by rw [hn] at hdue; exact absurd hdue (by decide)
  simp [measureOk, runs]

theorem timed_measureTimerFault (s : State) (h : TimerLaw s) : Timed (exec .measureTimerFault s) := by
  refine timed_ite h fun _ => ⟨?_, ?_⟩
  · simp [measureOk, Intake.measureLost]
  · simpa [shareTimerOk] using h.2

theorem timed_transitTimeout (b : Breaker) (s : State) (h : TimerLaw s) : Timed (exec (.transitTimeout b) s) := by
  cases b with
  | set => exact timed_ite h fun _ => h.of_kept ⟨rfl, rfl, rfl, rfl⟩
  | group g => exact timed_ite h fun _ => h.of_kept ⟨rfl, rfl, rfl, rfl⟩
  | tie => exact timed_ite h fun _ => h.of_kept (by constructor <;> simp)

/-! ### Entering a station state -/

theorem timerLaw_resetStation (pins : Straps) (cut : StoreCut) (s : State) : TimerLaw (resetStation pins cut s) := by
  obtain ⟨hctl, hintake, _⟩ := resetStation_blocks pins cut s
  constructor
  · unfold measureOk; rw [hintake]; simp [Intake.reset]
  · unfold shareTimerOk; rw [hctl]; rfl

theorem timerLaw_endInit (s : State) (h : TimerLaw s) (hs : s.ctl.station = .init) : TimerLaw (endInit s) := by
  have hctl : (endInit s).ctl = s.ctl.endInit := by simp [endInit]
  refine h.of_kept ⟨by simp, by simp, by rw [hctl]; rfl, by rw [hctl, hs]; rfl⟩

theorem timerLaw_enterStandbyState (s : State) : TimerLaw (enterStandbyState s) := by
  constructor
  · unfold measureOk; rw [enterStandbyState_intake]; simp [Intake.reset]
  · unfold shareTimerOk; rw [enterStandbyState_ctl]; rfl

theorem timerLaw_enterListen (s : State) (h : TimerLaw s) : TimerLaw (enterListen s) := by
  have hctl : (enterListen s).ctl =
      { s.ctl with station := .listen, writeEnable := false, listenCount := 0, shareTimer := some 0 } := by
    simp [enterListen]
  constructor
  · unfold measureOk; rw [enterListen_intake]; exact h.1
  · unfold shareTimerOk; rw [hctl]; rfl

theorem timersKept_transmitFailure (s : State) : TimersKept s (transmitFailure s) := by
  unfold transmitFailure
  split
  · next hs =>
    have hctl : (enterFallback s).ctl = { s.ctl with station := .fallback, fallbackCount := 0 } := by
      simp [enterFallback, zeroNeedTimers]
    exact .of_moved (by simp) (by simp [hctl]) (by rw [hs]; rfl) (by simp [hctl, StationState.active])
  · exact .refl s

theorem timersKept_addressClash (s : State) : TimersKept s (addressClash s) := by
  have station (t : State) : (enterSilent t).ctl =
      { t.ctl with station := .silent, listenCount := 0, fallbackCount := 0 } := by
    simp only [enterSilent]; split <;> simp [zeroNeedTimers]
  unfold addressClash
  split
  · next hs =>
    refine .of_moved (by simp) (by simp [station]) ?_ (by simp [station, StationState.active])
    rcases hs with hs | hs | hs <;> rw [hs] <;> rfl
  · exact .refl s

/-! ### The share link -/

theorem timersKept_errFrame (fl : Flight) (s : State) : TimersKept s (errFrame fl s) := by
  have finished : TimersKept s
      (s.setLink { s.link.finish fl with errors := min (s.link.errors + 1) 4, outcome := .error }) := .of_eq rfl rfl
  unfold errFrame
  split
  · exact finished.trans (timersKept_transmitFailure _)
  · exact finished

theorem timersKept_endFlight (fl : Flight) (line : List Bool) (s : State) : TimersKept s (endFlight fl line s) := by
  unfold endFlight
  cases fl.judge line with
  | lost => exact .of_eq rfl rfl
  | sent => exact timersKept_errFrame fl s
  | erred => exact timersKept_errFrame fl s

theorem timersKept_endReception (n : Nat) (s : State) : TimersKept s (endReception n s) := .of_eq rfl rfl

theorem timersKept_dropFrame (line : List Bool) (n : Nat) (s : State) : TimersKept s (dropFrame line n s) := by
  unfold dropFrame
  cases s.link.flight with
  | none => exact timersKept_endReception n s
  | some fl => exact (timersKept_endFlight fl line s).trans (timersKept_endReception n _)

theorem timersKept_takeFrame (f : Frame) (captureFirst : Bool) (s : State) : TimersKept s (takeFrame f captureFirst s) := by
  unfold takeFrame
  split
  · exact timersKept_addressClash s
  · exact .of_eq (by simp) (by simp)

theorem timersKept_validFrame (line : List Bool) (f : Frame) (captureFirst : Bool) (s : State) :
    TimersKept s (validFrame line f captureFirst s) := by
  have ended (t : State) (h : TimersKept s t) : TimersKept s (takeFrame f captureFirst (endReception 0 t)) :=
    (h.trans (timersKept_endReception 0 t)).trans (timersKept_takeFrame f captureFirst _)
  unfold validFrame
  cases s.link.flight with
  | none => exact ended s (.refl s)
  | some fl =>
    cases hj : fl.judge line with
    | sent => simp only [hj]; exact .of_eq rfl rfl
    | lost => simp only [hj]; exact ended _ (.of_eq rfl rfl)
    | erred => simp only [hj]; exact ended _ (timersKept_errFrame fl s)

theorem timed_frameReceived (line : List Bool) (captureFirst : Bool) (s : State) (h : TimerLaw s) :
    Timed (execFrameReceived line captureFirst s) := by
  unfold execFrameReceived
  split
  · cases receive line with
    | incomplete => exact timed_next h
    | dropped n => exact timed_next (h.of_kept (timersKept_dropFrame line n s))
    | valid f => exact timed_next (h.of_kept (timersKept_validFrame line f captureFirst s))
  · exact timed_next (h.of_eq rfl rfl)

theorem timed_transmitError (s : State) (h : TimerLaw s) : Timed (execTransmitError s) := by
  unfold execTransmitError
  cases s.link.flight with
  | none => exact timed_next h
  | some fl =>
    refine timed_next ?_
    split
    · exact h.of_kept (timersKept_errFrame fl s)
    · exact (h.of_kept (timersKept_errFrame fl s)).of_eq rfl rfl

theorem timed_frameStart (s : State) (h : TimerLaw s) : Timed (execFrameStart s) := by
  unfold execFrameStart
  split
  · cases s.offer with
    | none => exact timed_next h
    | some x => exact timed_next (h.of_eq rfl rfl)
  · exact timed_next h

theorem timed_arbitrationLoss (s : State) (h : TimerLaw s) : Timed (execArbitrationLoss s) := by
  unfold execArbitrationLoss
  cases s.link.flight with
  | none => exact timed_next h
  | some fl => exact timed_next (h.of_eq rfl rfl)

/-! ### A share-timer expiry -/

/-- An expiry in a working state leaves the share timer running and the station in a working state (R144). -/
theorem timerLaw_expiryRun (order : List ExpiryPart) (s : State) (h : TimerLaw s) (ha : s.ctl.station.active = true) :
    TimerLaw (expiryRun order s).state := by
  obtain ⟨st, listen, fallback, hactive, hctl⟩ := expiryRun_ctl order s
  constructor
  · unfold measureOk; rw [expiryRun_intake]; exact h.1
  · unfold shareTimerOk
    rw [hctl, applyStaged_ctl]
    split <;> exact (hactive.trans ha).symm

theorem timerLaw_shareExpiry (order : List ExpiryPart) (s : State) (h : TimerLaw s) :
    TimerLaw (shareExpiry order s) := by
  unfold shareExpiry
  split
  · next ha => exact timerLaw_expiryRun order s h ha
  · exact h

theorem timerLaw_namedExpiry (e : ExpiryEvent) (order : List ExpiryPart) (s : State) (h : TimerLaw s) :
    TimerLaw (namedExpiry e order s) := by
  unfold namedExpiry
  split
  · next he => exact timerLaw_expiryRun order s h he.1
  · exact h

/-! ### The service port -/

theorem timerLaw_endSelect (s : State) (h : TimerLaw s) : TimerLaw (endSelect s) := by
  unfold endSelect
  split
  · exact (timerLaw_resetStation s.ctl.pins .before s).of_eq rfl rfl
  · exact h.of_eq rfl rfl

theorem timerLaw_effect (c : Service) (fields : List Byte) (s : State) (h : TimerLaw s) :
    TimerLaw (c.effect fields s) := by
  cases c with
  | enterStandby =>
    show TimerLaw (standbyEffect s)
    unfold standbyEffect
    split
    · exact timerLaw_enterStandbyState s
    · exact h
  | resume => exact timerLaw_enterListen s h
  | stage =>
    show TimerLaw (stageEffect fields s)
    unfold stageEffect
    split
    · exact h
    · exact h.of_kept (by constructor <;> simp)
  | clearTrip => exact h.of_eq (by simp [Service.effect]) (by simp [Service.effect])
  | forceCapture => exact h.of_eq (by simp [Service.effect]) (by simp [Service.effect])
  | writeEnable => exact h.of_kept ⟨rfl, rfl, rfl, rfl⟩
  | writeConfig => exact h.of_kept ⟨rfl, rfl, rfl, rfl⟩
  | lockConfig => exact h.of_kept ⟨rfl, rfl, rfl, rfl⟩
  | hold => exact h.of_kept ⟨rfl, rfl, rfl, rfl⟩
  | apply => exact h.of_kept ⟨rfl, rfl, rfl, rfl⟩
  | _ => exact h.of_eq rfl rfl

theorem timed_serve (code : Byte) (fields : List Byte) (s : State) (h : TimerLaw s) :
    Timed (.next (serve code fields s)) := by
  have ended := timerLaw_endSelect s h
  refine timed_next ?_
  unfold serve answerCommand
  split
  · split
    · exact ended
    · next c _ => exact (timerLaw_effect c fields _ ended).of_eq rfl rfl
  · exact ended.of_eq rfl rfl

theorem timed_statusReadClear (s : State) (h : TimerLaw s) : Timed (execStatusReadClear s) := by
  unfold execStatusReadClear
  split
  · cases s.ctl.cfg.ackMode <;> exact timed_next (h.of_eq rfl rfl)
  · exact timed_next h

theorem timerLaw_storeDone (s : State) (h : TimerLaw s) : TimerLaw (raise .storeDone (s.setCtl s.ctl.storeDone)) := by
  refine h.of_kept ⟨rfl, rfl, ?_, ?_⟩ <;> simp only [raise_ctl, State.setCtl_ctl, Control.storeDone] <;> split <;> rfl

/-! ### Every command and every step -/

/-- Every command keeps the law of the two timers. -/
theorem exec_timed (c : Instr) (s : State) (h : TimerLaw s) : Timed (exec c s) := by
  cases c with
  | reset pins cut => exact timed_next (timerLaw_resetStation pins cut s)
  | restartReset pins => exact timed_ite h fun _ => timerLaw_resetStation pins .before s
  | endOfInit => exact timed_ite h fun hs => timerLaw_endInit s h hs
  | sampleArrival bytes order => exact timed_sampleArrival bytes order s h
  | measureTimerHeld => exact timed_measureTimerHeld s h
  | measureTimerFault => exact timed_measureTimerFault s h
  | transitTimeout b => exact timed_transitTimeout b s h
  | shareTimerExpiry order => exact timed_next (timerLaw_shareExpiry order s h)
  | listenEnd order => exact timed_next (timerLaw_namedExpiry _ order s h)
  | fallbackExit order => exact timed_next (timerLaw_namedExpiry _ order s h)
  | startAttemptTimeout order => exact timed_next (timerLaw_namedExpiry _ order s h)
  | stopNeedExpiry order => exact timed_next (timerLaw_namedExpiry _ order s h)
  | settleTimerExpiry order => exact timed_next (timerLaw_namedExpiry _ order s h)
  | ladderStep order => exact timed_next (timerLaw_namedExpiry _ order s h)
  | restorationStep order => exact timed_next (timerLaw_namedExpiry _ order s h)
  | confirmTimeout g => exact timed_ite h fun _ => h.of_eq rfl rfl
  | tripTimeout => exact timed_ite h fun _ => h.of_eq rfl rfl
  | stopPulseEnd => exact timed_ite h fun _ => h.of_eq rfl rfl
  | timeTagWrap => exact timed_ite h fun _ => h.of_eq rfl rfl
  | attentionPulseEnd => exact timed_ite h fun _ => h.of_eq rfl rfl
  | lineIdle => exact timed_ite h fun _ => h.of_eq rfl rfl
  | lineBusy => exact timed_next (h.of_eq rfl rfl)
  | frameStart => exact timed_frameStart s h
  | arbitrationLoss => exact timed_arbitrationLoss s h
  | transmitError => exact timed_transmitError s h
  | frameReceived line captureFirst => exact timed_frameReceived line captureFirst s h
  | readoutComplete => exact timed_ite h fun _ => h.of_eq (by simp) (by simp)
  | statusReadClear => exact timed_statusReadClear s h
  | storeCompletion =>
    show Timed (execStoreCompletion s)
    unfold execStoreCompletion
    split
    · exact timed_next h
    · exact timed_next (timerLaw_storeDone s h)
  | selectDeassert => exact timed_next (timerLaw_endSelect s h)
  | _ => exact timed_serve _ _ s h

/-- A microsecond starts and stops no timer. -/
theorem timersKept_idle (s : State) : TimersKept s (idle s) := by
  have advanced : TimersKept s (advance s) := by
    constructor <;> simp [Intake.tick, tickTimer]
  rw [idle_eq]
  split
  · exact advanced
  · exact advanced.trans (.of_eq rfl rfl)

/-- Settles O11, by the law's passage through each command and through a microsecond with none waiting. -/
theorem stepKeepsTimerLaw : Obligations.StepKeepsTimerLaw := by
  unfold Obligations.StepKeepsTimerLaw
  intro s t hm hs e
  have law : TimerLaw s := ⟨hm, hs⟩
  unfold step at e
  cases hq : s.pending with
  | nil => rw [hq] at e; exact timed_next (law.of_kept (timersKept_idle s)) t e
  | cons c rest => rw [hq] at e; exact exec_timed c { s with pending := rest } (law.of_eq rfl rfl) t e

end Machine
end Sys2Proof

/-! Proofs. The transmit set through every command and every step (R25, R26, R29, R30): most operations can do no more to the share
link than queue an alert; the commands of the link and the entries to a station state are taken one by one. -/

namespace Sys2Proof
namespace Machine

open Safety

/-! ### What may be queued (R25, R30) -/

/-- Between `s` and `t` nothing has happened to the share link but that alerts were queued, in RUN or FALLBACK and to four at
most, and the station state stands. -/
structure Queues (s t : State) : Prop where
  station : t.ctl.station = s.ctl.station
  link : t.link = { s.link with alerts := t.link.alerts }
  quiet : s.ctl.station.transmits = false → t.link.alerts = s.link.alerts
  length : s.link.alerts.length ≤ 4 → t.link.alerts.length ≤ 4

/-- What leaves the station state and the link alone queues nothing. -/
theorem Queues.of_eq {s t : State} (hstation : t.ctl.station = s.ctl.station) (hlink : t.link = s.link) : Queues s t :=
  ⟨hstation, by rw [hlink], fun _ => by rw [hlink], fun h => by rw [hlink]; exact h⟩

theorem Queues.refl (s : State) : Queues s s := .of_eq rfl rfl

theorem Queues.trans {s t u : State} (h : Queues s t) (k : Queues t u) : Queues s u where
  station := k.station.trans h.station
  link := by rw [k.link, h.link]
  quiet hs := (k.quiet (by rw [h.station]; exact hs)).trans (h.quiet hs)
  length hs := k.length (h.length hs)

/-- What queues from a state with this station state and this link queues from here. -/
theorem Queues.from_eq {s t u : State} (k : Queues t u) (hstation : t.ctl.station = s.ctl.station)
    (hlink : t.link = s.link) : Queues s u :=
  (Queues.of_eq hstation hlink).trans k

theorem Queues.ite {s t : State} {c : Prop} [Decidable c] (h : c → Queues s t) : Queues s (if c then t else s) := by
  split
  · next hc => exact h hc
  · exact .refl s

theorem queues_queueAlert (a : Alert) (s : State) : Queues s (queueAlert a s) := by
  rcases queueAlert_cases a s with ⟨ht, hl, e⟩ | ⟨_, _, e⟩ | ⟨_, e⟩ <;> rw [e]
  · exact ⟨rfl, rfl, fun h => absurd ht (by simp [h]), fun _ => by simpa using hl⟩
  · exact .of_eq rfl rfl
  · exact .refl s

theorem queues_abandonRampOut (s : State) : Queues s (abandonRampOut s) := .of_eq (by simp) (by simp)

/-- An increase of the cut rank queues its SHED ALERT at most (R104). -/
theorem queues_increaseCut (cut : Nat) (cause : Option ShedCause) (s : State) : Queues s (increaseCut cut cause s) := by
  have offered : Queues s (offerTrigger .shedStep (raise .shedStep (s.setShed (s.shedRaised cut)))) :=
    .of_eq (by simp) (by simp)
  have abandoned (t : State) (h : Queues s t) : Queues s (if t.isGenset then abandonRampOut t else t) :=
    h.trans (.ite fun _ => queues_abandonRampOut t)
  cases cause with
  | none => exact abandoned _ offered
  | some c => exact (abandoned _ offered).trans (queues_queueAlert (.shed cut c) _)

theorem queues_evaluateCapacity (s : State) : Queues s (evaluateCapacity s) := .ite fun _ => queues_increaseCut _ _ s

theorem queues_evaluateInRun (s : State) : Queues s (evaluateInRun s) := .ite fun _ => queues_evaluateCapacity s

theorem queues_ladderTest (s : State) : Queues s (ladderTest s) := .ite fun _ => queues_increaseCut _ _ s

theorem queues_deadEntry (s : State) : Queues s (deadEntry s) := .ite fun _ => queues_increaseCut _ _ s

theorem queues_adopt (cut : Nat) (inIsland : Bool) (s : State) : Queues s (adopt cut inIsland s) :=
  .ite fun _ => queues_increaseCut _ _ s

theorem queues_immediateSums (s : State) : Queues s (immediateSums s) :=
  (queues_evaluateInRun _).from_eq (by simp) (by simp)

theorem queues_deriveTieNow (s : State) : Queues s (deriveTieNow s) := by
  unfold deriveTieNow
  split
  · exact .refl s
  · exact (queues_evaluateInRun _).from_eq (by simp) (by simp)

/-! ### A sample's hand-offs (R3) -/

/-- A trip queues its TRIP ALERT at most (R59). -/
theorem queues_tripSet (s : State) : Queues s (tripSet s) :=
  (queues_queueAlert (.trip s.ctl.cfg.pRated s.intake.means.p) s).trans (.of_eq (by simp [tripSet]) (by simp [tripSet]))

theorem queues_setSettlesOpen (s : State) : Queues s (setSettlesOpen s) := by
  unfold setSettlesOpen
  split
  · split
    · exact .of_eq (by simp) (by simp)
    · exact queues_tripSet s
  · exact .refl s

theorem queues_handSetBreaker (n : BreakerNews) (s : State) : Queues s (handSetBreaker n s) := by
  have raised : Queues s (raiseIf n.any .breaker s) := .of_eq (by simp) (by simp)
  unfold handSetBreaker
  split
  · cases n.reading with
    | closed => exact raised.trans (.of_eq (by simp) (by simp))
    | opened => exact raised.trans (queues_setSettlesOpen _)
    | transit => exact raised
    | discrepant => exact raised
  · exact raised

theorem queues_handUfSet (s : State) : Queues s (handUfSet s) := by
  unfold handUfSet
  split
  · exact (queues_ladderTest s).trans (.of_eq rfl rfl)
  · exact .of_eq (by simp) (by simp)

theorem queues_handPart (n : SampleNews) (part : SamplePart) (s : State) : Queues s (handPart n part s) := by
  cases part with
  | breakers =>
    exact (queues_handSetBreaker n.setBreaker s).trans (.of_eq (by simp [handPart]) (by simp [handPart]))
  | tie => exact (Queues.ite fun _ => queues_deriveTieNow _).from_eq (by simp) (by simp)
  | ufShed => exact .ite fun _ => queues_handUfSet s
  | ufTrigger => exact .ite fun _ => .of_eq (by simp) (by simp)
  | dead => exact .ite fun _ => queues_deadEntry s
  | row => exact .of_eq (by simp [handPart]) (by simp [handPart])

theorem queues_acceptSample (x : Sample) (order : List SamplePart) (s : State) : Queues s (acceptSample x order s) :=
  (acceptSample_keeps x order s (Queues s) (fun t q _ _ ht => ht.trans (queues_handPart _ q t))
    (.of_eq (by simp) (by simp))).2.2

/-! ### Frame arrivals (R34, R38, R39, R40) -/

theorem queues_deriveIf (c : Bool) (s : State) : Queues s (deriveIf c s) := .ite fun _ => queues_deriveTieNow s

theorem queues_tripSums (f : Frame) (ratedKw p : Int) (s : State) : Queues s (tripSums f ratedKw p s) :=
  ((queues_deriveIf _ _).trans (queues_immediateSums _)).from_eq (by simp) (by simp)

theorem queues_arriveTrip (f : Frame) (ratedKw p : Int) (captureFirst : Bool) (s : State) :
    Queues s (arriveTrip f ratedKw p captureFirst s) := by
  unfold arriveTrip
  split
  · exact (queues_tripSums f ratedKw p _).from_eq (by simp) (by simp)
  · have summed : Queues s (tripSums f ratedKw p (raise .tripHeard s)) :=
      (queues_tripSums f ratedKw p _).from_eq (by simp) (by simp)
    exact summed.trans (.of_eq (by simp) (by simp))

theorem queues_arrive (f : Frame) (captureFirst : Bool) (s : State) : Queues s (arrive f captureFirst s) := by
  unfold arrive
  split
  · split
    · exact (queues_deriveIf _ _).from_eq (by simp) (by simp)
    · exact (queues_deriveTieNow _).from_eq (by simp) (by simp)
    · exact queues_arriveTrip f _ _ captureFirst s
    · exact (queues_adopt _ _ _).from_eq (by simp) (by simp)
  · exact (queues_deriveIf _ _).from_eq (by simp) (by simp)

/-! ### The work of an expiry after the test point (R144) -/

theorem queues_capacityWork (tieChange : Bool) (s : State) : Queues s (capacityWork tieChange s) := by
  unfold capacityWork
  cases tieChange with
  | false => exact .ite fun _ => queues_evaluateCapacity s
  | true => exact (Queues.ite fun _ => queues_evaluateCapacity (zeroRestore s)).from_eq (by simp) (by simp)

theorem queues_ladderWork (s : State) : Queues s (ladderWork s) := by
  unfold ladderWork
  split
  · exact .refl s
  · split
    · exact .refl s
    · split
      · exact .of_eq rfl rfl
      · split
        · exact (queues_ladderTest _).from_eq (by simp) (by simp)
        · exact .of_eq rfl rfl

theorem queues_shedWork (tieChange : Bool) (r : ExpiryRun) : Queues r.state (shedWork tieChange r).state := by
  have counted : Queues r.state (countSettle (rememberLoads r.state)) := .of_eq (by simp) (by simp)
  have worked := counted.trans ((queues_capacityWork tieChange _).trans (queues_ladderWork _))
  exact worked.trans (.of_eq (by simp [shedWork, ExpiryRun.withState]) (by simp [shedWork, ExpiryRun.withState]))

/-- Generation on demand reaches neither station control nor the link. -/
theorem queues_demandWork (r : ExpiryRun) : Queues r.state (demandWork r).state := by
  simp only [demandWork]
  split
  · split
    · exact .of_eq (by simp [ExpiryRun.withState, ExpiryRun.note]) (by simp [ExpiryRun.withState, ExpiryRun.note])
    · exact .of_eq (by simp [ExpiryRun.note]) (by simp [ExpiryRun.note])
  · exact .refl _

/-- Every block's work after the test point but the share link's own queues alerts at most. -/
theorem queues_expiryPart (tieChange : Bool) (part : ExpiryPart) (r : ExpiryRun) (h : part ≠ .link) :
    Queues r.state (expiryPart tieChange part r).state := by
  cases part with
  | loadShare => exact .of_eq (by simp [expiryPart, ExpiryRun.withState]) (by simp [expiryPart, ExpiryRun.withState])
  | demand => exact queues_demandWork r
  | shed => exact queues_shedWork tieChange r
  | link => exact absurd rfl h

/-! ### The law of the transmit set -/

/-- At most four alerts and an error count of at most four, and outside RUN and FALLBACK nothing held to send. -/
def TransmitLaw (s : State) : Prop := transmitOk s ∧ quietOk s

theorem TransmitLaw.of_queues {s t : State} (h : TransmitLaw s) (k : Queues s t) : TransmitLaw t := by
  obtain ⟨⟨halerts, herrors⟩, hquiet⟩ := h
  refine ⟨⟨k.length halerts, by rw [k.link]; exact herrors⟩, fun ht => ?_⟩
  rw [k.station] at ht
  obtain ⟨qalerts, qflight⟩ := hquiet ht
  rw [k.link, k.quiet ht]
  exact ⟨qalerts, qflight⟩

theorem TransmitLaw.of_eq {s t : State} (h : TransmitLaw s) (hstation : t.ctl.station = s.ctl.station)
    (hlink : t.link = s.link) : TransmitLaw t :=
  h.of_queues (.of_eq hstation hlink)

/-- In RUN and FALLBACK the law bounds the queue and the error count and says no more (R25, R29). -/
theorem TransmitLaw.of_transmits {t : State} (ht : t.ctl.station.transmits = true) (halerts : t.link.alerts.length ≤ 4)
    (herrors : t.link.errors ≤ 4) : TransmitLaw t :=
  ⟨⟨halerts, herrors⟩, fun h => absurd ht (by simp [h])⟩

/-- With the transmit set emptied the law holds in every station state (R30). -/
theorem TransmitLaw.of_silenced {t : State} {l : Link} (h : t.link = { l.silenced with receiving := t.link.receiving }) :
    TransmitLaw t := by
  refine ⟨⟨?_, ?_⟩, fun _ => ?_⟩ <;> rw [h] <;> simp [Link.silenced]

/-- A station that drives a frame is in RUN or FALLBACK (R30). -/
theorem TransmitLaw.transmits_of_flight {s : State} {fl : Flight} (h : TransmitLaw s) (hf : s.link.flight = some fl) :
    s.ctl.station.transmits = true := by
  by_contra ht
  obtain ⟨-, hnone, -⟩ := h.2 (by simpa using ht)
  rw [hf] at hnone
  exact absurd hnone (by simp)

/-- A change of the line monitor and of nothing the station holds to send. -/
theorem TransmitLaw.of_monitor {s t : State} (h : TransmitLaw s) (hstation : t.ctl.station = s.ctl.station)
    (hlink : ∃ m n r b, t.link = { s.link with monitor := m, recessive := n, receiving := r, startRead := b }) :
    TransmitLaw t := by
  obtain ⟨m, n, r, b, hlink⟩ := hlink
  obtain ⟨hok, hquiet⟩ := h
  refine ⟨?_, fun ht => ?_⟩
  · unfold transmitOk; rw [hlink]; exact hok
  · rw [hlink]; exact hquiet (hstation ▸ ht)

/-! ### Entering a station state (R142, R145 to R150) -/

theorem transmitLaw_resetStation (pins : Straps) (cut : StoreCut) (s : State) : TransmitLaw (resetStation pins cut s) := by
  obtain ⟨-, -, hlink, -⟩ := resetStation_blocks pins cut s
  refine ⟨⟨?_, ?_⟩, fun _ => ?_⟩ <;> rw [hlink] <;> simp [Link.reset]

theorem transmitLaw_endInit (s : State) (h : TransmitLaw s) (hs : s.ctl.station = .init) : TransmitLaw (endInit s) := by
  obtain ⟨hok, hquiet⟩ := h
  have hlink : (endInit s).link = s.link := by simp
  refine ⟨?_, fun _ => ?_⟩
  · unfold transmitOk; rw [hlink]; exact hok
  · rw [hlink]; exact hquiet (by rw [hs]; rfl)

theorem transmitLaw_enterStandbyState (s : State) : TransmitLaw (enterStandbyState s) :=
  .of_silenced (l := s.link) (by rw [enterStandbyState_link])

theorem enterListen_link (s : State) : (enterListen s).link = { s.link.silenced with receiving := false } := by
  simp [enterListen]

theorem transmitLaw_enterListen (s : State) : TransmitLaw (enterListen s) :=
  .of_silenced (l := s.link) (by rw [enterListen_link])

theorem enterSilent_link (s : State) : (enterSilent s).link = s.link.silenced := by
  simp only [enterSilent]; split <;> simp

theorem enterRun_link (s : State) : (enterRun s).link = s.link.silenced := by simp [enterRun]

theorem enterFallback_ctl (s : State) :
    (enterFallback s).ctl = { s.ctl with station := .fallback, fallbackCount := 0 } := by
  simp [enterFallback, zeroNeedTimers]

theorem returnToRun_ctl (s : State) : (returnToRun s).ctl = { s.ctl with station := .run, fallbackCount := 0 } := by
  simp [returnToRun]

theorem transmitLaw_enterFallback (s : State) (h : transmitOk s) : TransmitLaw (enterFallback s) :=
  .of_transmits (by rw [enterFallback_ctl]; rfl) (by rw [enterFallback_link]; exact h.1)
    (by rw [enterFallback_link]; exact h.2)

theorem transmitLaw_transmitFailure (s : State) (h : TransmitLaw s) : TransmitLaw (transmitFailure s) := by
  unfold transmitFailure
  split
  · exact (transmitLaw_enterFallback s h.1).of_eq (by simp) (by simp)
  · exact h

theorem transmitLaw_addressClash (s : State) (h : TransmitLaw s) : TransmitLaw (addressClash s) := by
  unfold addressClash
  split
  · exact .of_silenced (l := (raise .clash s).link) (by rw [enterSilent_link])
  · exact h

/-! ### The share link's commands (R23, R28, R29, R33) -/

theorem transmitLaw_loseFrame (fl : Flight) (s : State) (h : TransmitLaw s) (ht : s.ctl.station.transmits = true) :
    TransmitLaw (loseFrame fl s) :=
  .of_transmits ht h.1.1 h.1.2

/-- What ends a frame adds no alert (R28). -/
theorem finish_alerts_length (l : Link) (fl : Flight) (h : l.alerts.length ≤ 4) : (l.finish fl).alerts.length ≤ 4 := by
  cases hfl : fl.isAlert <;> simp [Link.finish, hfl] <;> omega

theorem transmitLaw_sendFrame (fl : Flight) (s : State) (h : TransmitLaw s) (ht : s.ctl.station.transmits = true) :
    TransmitLaw (sendFrame fl s) :=
  .of_transmits ht (finish_alerts_length s.link fl h.1.1) (Nat.zero_le 4)

/-- The link after a transmit error: the frame abandoned, the count risen to at most 4, the last outcome ERROR (R28, R29). -/
def Link.erred (l : Link) (fl : Flight) : Link :=
  { l.finish fl with errors := min (l.errors + 1) 4, outcome := .error }

/-- A transmit error changes the link, and from 3 to 4 it is handed on as transmit failure (R29). -/
theorem errFrame_def (fl : Flight) (s : State) :
    errFrame fl s =
      if s.link.errors = 3 then transmitFailure (s.setLink (s.link.erred fl)) else s.setLink (s.link.erred fl) := rfl

theorem transmitLaw_errFrame (fl : Flight) (s : State) (h : TransmitLaw s) (ht : s.ctl.station.transmits = true) :
    TransmitLaw (errFrame fl s) := by
  have ended : TransmitLaw (s.setLink (s.link.erred fl)) :=
    .of_transmits ht (finish_alerts_length s.link fl h.1.1) (Nat.min_le_right _ _)
  rw [errFrame_def]
  split
  · exact transmitLaw_transmitFailure _ ended
  · exact ended

theorem transmitLaw_endFlight (fl : Flight) (line : List Bool) (s : State) (h : TransmitLaw s)
    (ht : s.ctl.station.transmits = true) : TransmitLaw (endFlight fl line s) := by
  unfold endFlight
  cases fl.judge line with
  | lost => exact transmitLaw_loseFrame fl s h ht
  | sent => exact transmitLaw_errFrame fl s h ht
  | erred => exact transmitLaw_errFrame fl s h ht

theorem transmitLaw_endReception (n : Nat) (s : State) (h : TransmitLaw s) : TransmitLaw (endReception n s) :=
  h.of_monitor rfl ⟨_, _, _, _, rfl⟩

theorem transmitLaw_passBy (line : List Bool) (s : State) (h : TransmitLaw s) : TransmitLaw (passBy line s) := by
  refine h.of_monitor rfl ?_
  show ∃ m n r b, s.link.passed line = _
  unfold Link.passed
  split <;> exact ⟨_, _, _, _, rfl⟩

theorem transmitLaw_dropFrame (line : List Bool) (n : Nat) (s : State) (h : TransmitLaw s) :
    TransmitLaw (dropFrame line n s) := by
  unfold dropFrame
  cases hf : s.link.flight with
  | none => exact transmitLaw_endReception n s h
  | some fl => exact transmitLaw_endReception n _ (transmitLaw_endFlight fl line s h (h.transmits_of_flight hf))

theorem transmitLaw_takeFrame (f : Frame) (captureFirst : Bool) (s : State) (h : TransmitLaw s) :
    TransmitLaw (takeFrame f captureFirst s) := by
  unfold takeFrame
  split
  · exact transmitLaw_addressClash s h
  · exact h.of_queues (queues_arrive f captureFirst s)

theorem transmitLaw_validFrame (line : List Bool) (f : Frame) (captureFirst : Bool) (s : State) (h : TransmitLaw s) :
    TransmitLaw (validFrame line f captureFirst s) := by
  have taken (t : State) (ht : TransmitLaw t) : TransmitLaw (takeFrame f captureFirst (endReception 0 t)) :=
    transmitLaw_takeFrame f captureFirst _ (transmitLaw_endReception 0 t ht)
  unfold validFrame
  cases hf : s.link.flight with
  | none => exact taken s h
  | some fl =>
    have ht := h.transmits_of_flight hf
    cases hj : fl.judge line with
    | sent => simp only [hj]; exact transmitLaw_endReception 0 _ (transmitLaw_sendFrame fl s h ht)
    | lost => simp only [hj]; exact taken _ (transmitLaw_loseFrame fl s h ht)
    | erred => simp only [hj]; exact taken _ (transmitLaw_errFrame fl s h ht)

/-! ### The answers of the commands -/

/-- Every next state of an answer has a property. -/
def Answers (P : State → Prop) (a : Answer) : Prop := ∀ t, a = .next t → P t

theorem answers_next {P : State → Prop} {t : State} (h : P t) : Answers P (.next t) := fun u e => by cases e; exact h

/-- An event where its condition holds, and no event elsewhere (log entry 9). -/
theorem answers_ite {P : State → Prop} {p : Prop} [Decidable p] {t s : State} (hs : P s) (ht : p → P t) :
    Answers P (if p then .next t else .next s) := by
  split
  · next hp => exact answers_next (ht hp)
  · exact answers_next hs

theorem transmitLaw_frameReceived (line : List Bool) (captureFirst : Bool) (s : State) (h : TransmitLaw s) :
    Answers TransmitLaw (execFrameReceived line captureFirst s) := by
  unfold execFrameReceived
  split
  · cases receive line with
    | incomplete => exact answers_next h
    | dropped n => exact answers_next (transmitLaw_dropFrame line n s h)
    | valid f => exact answers_next (transmitLaw_validFrame line f captureFirst s h)
  · exact answers_next (transmitLaw_passBy line s h)

theorem transmitLaw_transmitError (s : State) (h : TransmitLaw s) : Answers TransmitLaw (execTransmitError s) := by
  unfold execTransmitError
  cases hf : s.link.flight with
  | none => exact answers_next h
  | some fl =>
    have erred := transmitLaw_errFrame fl s h (h.transmits_of_flight hf)
    refine answers_next ?_
    split
    · exact erred
    · exact erred.of_monitor rfl ⟨_, _, _, _, rfl⟩

theorem transmitLaw_frameStart (s : State) (h : TransmitLaw s) : Answers TransmitLaw (execFrameStart s) := by
  unfold execFrameStart
  split
  · next hs =>
    cases s.offer with
    | none => exact answers_next h
    | some x => exact answers_next (.of_transmits hs.1 h.1.1 h.1.2)
  · exact answers_next h

theorem transmitLaw_arbitrationLoss (s : State) (h : TransmitLaw s) : Answers TransmitLaw (execArbitrationLoss s) := by
  unfold execArbitrationLoss
  cases hf : s.link.flight with
  | none => exact answers_next h
  | some fl => exact answers_next (transmitLaw_loseFrame fl s h (h.transmits_of_flight hf))

theorem transmitLaw_sampleArrival (bytes : List Byte) (order : List SamplePart) (s : State) (h : TransmitLaw s) :
    Answers TransmitLaw (execSampleArrival bytes order s) := by
  unfold execSampleArrival
  split
  · cases parseSample s.ctl.straps.role bytes with
    | none => exact answers_next h
    | some x => exact answers_next (h.of_queues (queues_acceptSample x order s))
  · exact answers_next h

theorem transmitLaw_transitTimeout (b : Breaker) (s : State) (h : TransmitLaw s) :
    Answers TransmitLaw (execTransitTimeout b s) := by
  cases b with
  | set => exact answers_ite h fun _ => h.of_eq rfl rfl
  | group g => exact answers_ite h fun _ => h.of_eq rfl rfl
  | tie => exact answers_ite h fun _ => h.of_queues ((queues_deriveTieNow _).from_eq (by simp) (by simp))

/-! ### A share-timer expiry (R144) -/

/-- The state tests keep the law: RUN from LISTEN empties the transmit set, the moves between RUN and FALLBACK leave it. -/
theorem transmitLaw_testPoint (r : ExpiryRun) (h : TransmitLaw r.state) : TransmitLaw (testPoint r).state := by
  cases hs : r.state.ctl.station <;> simp only [testPoint, hs]
  case listen =>
    split
    · exact .of_silenced (l := r.state.link) (by simp [ExpiryRun.note, enterRun_link, Link.silenced])
    · exact h.of_eq hs.symm rfl
  case run =>
    split
    · exact transmitLaw_enterFallback _ h.1
    · exact h
  case fallback =>
    split
    · split
      · exact .of_transmits (by simp [ExpiryRun.note, returnToRun_ctl, StationState.transmits])
          (by simpa [ExpiryRun.note] using h.1.1) (by simpa [ExpiryRun.note] using h.1.2)
      · exact h.of_eq hs.symm rfl
    · exact h.of_eq hs.symm rfl
  all_goals exact h

theorem transmitLaw_linkWork (s : State) (h : TransmitLaw s) : TransmitLaw (linkWork s) := by
  unfold linkWork
  split
  · next ht => exact .of_transmits ht h.1.1 h.1.2
  · exact h

theorem transmitLaw_expiryPart (tieChange : Bool) (part : ExpiryPart) (r : ExpiryRun) (h : TransmitLaw r.state) :
    TransmitLaw (expiryPart tieChange part r).state := by
  by_cases hp : part = .link
  · rw [hp]; exact transmitLaw_linkWork _ h
  · exact h.of_queues (queues_expiryPart tieChange part r hp)

/-- Up to the test point the station state, the straps and the counters stand (R144). -/
theorem atTestPoint_control (s : State) :
    (atTestPoint s).ctl.station = s.ctl.station ∧ (atTestPoint s).ctl.straps = s.ctl.straps ∧
    (atTestPoint s).ctl.listenCount = s.ctl.listenCount ∧ (atTestPoint s).ctl.fallbackCount = s.ctl.fallbackCount := by
  have before : (atTestPoint s).ctl = (applyStaged (s.setCtl { s.ctl with shareTimer := some 0 })).ctl := by
    simp [atTestPoint]
  rw [before, applyStaged_ctl]
  split <;> exact ⟨rfl, rfl, rfl, rfl⟩

theorem transmitLaw_expiryRun (order : List ExpiryPart) (s : State) (h : TransmitLaw s) :
    TransmitLaw (expiryRun order s).state :=
  foldl_keeps _ (fun r => TransmitLaw r.state) (fun r q hr => transmitLaw_expiryPart _ q r hr) _ _
    (transmitLaw_testPoint _ (h.of_eq (atTestPoint_control s).1 (by simp)))

theorem transmitLaw_namedExpiry (e : ExpiryEvent) (order : List ExpiryPart) (s : State) (h : TransmitLaw s) :
    TransmitLaw (namedExpiry e order s) := by
  unfold namedExpiry
  split
  · exact transmitLaw_expiryRun order s h
  · exact h

theorem transmitLaw_shareExpiry (order : List ExpiryPart) (s : State) (h : TransmitLaw s) :
    TransmitLaw (shareExpiry order s) := by
  unfold shareExpiry
  split
  · exact transmitLaw_expiryRun order s h
  · exact h

/-! ### The service port -/

theorem transmitLaw_endSelect (s : State) (h : TransmitLaw s) : TransmitLaw (endSelect s) := by
  unfold endSelect
  split
  · exact (transmitLaw_resetStation s.ctl.pins .before s).of_eq rfl rfl
  · exact h.of_eq rfl rfl

theorem transmitLaw_effect (c : Service) (fields : List Byte) (s : State) (h : TransmitLaw s) :
    TransmitLaw (c.effect fields s) := by
  cases c with
  | enterStandby =>
    show TransmitLaw (standbyEffect s)
    unfold standbyEffect
    split
    · exact transmitLaw_enterStandbyState s
    · exact h
  | resume => exact transmitLaw_enterListen s
  | stage =>
    show TransmitLaw (stageEffect fields s)
    unfold stageEffect
    split
    · exact h
    · exact h.of_eq (by simp) (by simp)
  | clearTrip => exact h.of_eq (by simp [Service.effect]) (by simp [Service.effect])
  | forceCapture => exact h.of_eq (by simp [Service.effect]) (by simp [Service.effect])
  | _ => exact h.of_eq rfl rfl

theorem transmitLaw_serve (code : Byte) (fields : List Byte) (s : State) (h : TransmitLaw s) :
    TransmitLaw (serve code fields s) := by
  have ended := transmitLaw_endSelect s h
  unfold serve answerCommand
  split
  · split
    · exact ended
    · next c _ => exact (transmitLaw_effect c fields _ ended).of_eq rfl rfl
  · exact ended.of_eq rfl rfl

theorem transmitLaw_statusReadClear (s : State) (h : TransmitLaw s) : Answers TransmitLaw (execStatusReadClear s) := by
  unfold execStatusReadClear
  split
  · cases s.ctl.cfg.ackMode <;> exact answers_next (h.of_eq rfl rfl)
  · exact answers_next h

/-- A store operation's completion leaves the station state (R159). -/
theorem storeDone_station (c : Control) : c.storeDone.station = c.station := by
  unfold Control.storeDone; split <;> rfl

theorem transmitLaw_storeCompletion (s : State) (h : TransmitLaw s) : Answers TransmitLaw (execStoreCompletion s) := by
  unfold execStoreCompletion
  split
  · exact answers_next h
  · exact answers_next (h.of_eq (storeDone_station s.ctl) rfl)

/-! ### Every command and every step -/

/-- Every command keeps the law of the transmit set. -/
theorem exec_transmitLaw (c : Instr) (s : State) (h : TransmitLaw s) : Answers TransmitLaw (exec c s) := by
  cases c with
  | reset pins cut => exact answers_next (transmitLaw_resetStation pins cut s)
  | restartReset pins => exact answers_ite h fun _ => transmitLaw_resetStation pins .before s
  | endOfInit => exact answers_ite h fun hs => transmitLaw_endInit s h hs
  | sampleArrival bytes order => exact transmitLaw_sampleArrival bytes order s h
  | measureTimerHeld => exact answers_ite h fun _ => h.of_eq rfl rfl
  | measureTimerFault =>
    exact answers_ite h fun _ => h.of_queues ((queues_deriveTieNow _).from_eq (by simp) (by simp))
  | transitTimeout b => exact transmitLaw_transitTimeout b s h
  | shareTimerExpiry order => exact answers_next (transmitLaw_shareExpiry order s h)
  | listenEnd order => exact answers_next (transmitLaw_namedExpiry _ order s h)
  | fallbackExit order => exact answers_next (transmitLaw_namedExpiry _ order s h)
  | startAttemptTimeout order => exact answers_next (transmitLaw_namedExpiry _ order s h)
  | stopNeedExpiry order => exact answers_next (transmitLaw_namedExpiry _ order s h)
  | settleTimerExpiry order => exact answers_next (transmitLaw_namedExpiry _ order s h)
  | ladderStep order => exact answers_next (transmitLaw_namedExpiry _ order s h)
  | restorationStep order => exact answers_next (transmitLaw_namedExpiry _ order s h)
  | confirmTimeout g => exact answers_ite h fun _ => h.of_eq rfl rfl
  | tripTimeout => exact answers_ite h fun _ => h.of_eq rfl rfl
  | stopPulseEnd => exact answers_ite h fun _ => h.of_eq rfl rfl
  | timeTagWrap => exact answers_ite h fun _ => h.of_eq rfl rfl
  | attentionPulseEnd => exact answers_ite h fun _ => h.of_eq rfl rfl
  | lineIdle => exact answers_ite h fun _ => h.of_monitor rfl ⟨_, _, _, _, rfl⟩
  | lineBusy => exact answers_next (h.of_monitor rfl ⟨_, _, _, _, rfl⟩)
  | frameStart => exact transmitLaw_frameStart s h
  | arbitrationLoss => exact transmitLaw_arbitrationLoss s h
  | transmitError => exact transmitLaw_transmitError s h
  | frameReceived line captureFirst => exact transmitLaw_frameReceived line captureFirst s h
  | readoutComplete => exact answers_ite h fun _ => h.of_eq (by simp) (by simp)
  | statusReadClear => exact transmitLaw_statusReadClear s h
  | storeCompletion => exact transmitLaw_storeCompletion s h
  | selectDeassert => exact answers_next (transmitLaw_endSelect s h)
  | _ => exact answers_next (transmitLaw_serve _ _ s h)

/-- A microsecond moves the line monitor and nothing the station holds to send. -/
theorem transmitLaw_idle (s : State) (h : TransmitLaw s) : TransmitLaw (idle s) := by
  have advanced : TransmitLaw (advance s) := by
    refine h.of_monitor rfl ?_
    show ∃ m n r b, s.link.tick = _
    unfold Link.tick
    split
    · exact ⟨_, _, _, _, rfl⟩
    · split <;> exact ⟨_, _, _, _, rfl⟩
  rw [idle_eq]
  split
  · exact advanced
  · exact advanced.of_eq rfl rfl

/-- Settles O5, by the law's passage through each command and through a microsecond with none waiting. -/
theorem stepKeepsTransmitSet : Obligations.StepKeepsTransmitSet := by
  unfold Obligations.StepKeepsTransmitSet
  intro s t hok hquiet e
  have law : TransmitLaw s := ⟨hok, hquiet⟩
  unfold step at e
  cases hq : s.pending with
  | nil => rw [hq] at e; exact answers_next (transmitLaw_idle s law) t e
  | cons c rest => rw [hq] at e; exact exec_transmitLaw c { s with pending := rest } (law.of_eq rfl rfl) t e

end Machine
end Sys2Proof

/-! Proofs. Stuffing (R20) and its reading (R32): no seven equal levels are sent, the receive path takes a stuffed region back to the
bits that were stuffed, and seven equal levels drop the frame. -/

namespace Sys2Proof
namespace Machine

open Safety

/-! ### Stuffing, level by level (R20) -/

/-- At the end of the bits a run of six is followed by one stuff bit. -/
theorem stuffAfter_nil (last : Bool) (run : Nat) :
    stuffAfter last run [] = if run = 6 then [!last] else [] := rfl

/-- After six equal levels a stuff bit of the opposite level comes, and counts as the first of a new run. -/
theorem stuffAfter_six (last b : Bool) (rest : List Bool) :
    stuffAfter last 6 (b :: rest) = (!last) :: stuffAfter (!last) 1 (b :: rest) := by
  by_cases h : b = !last <;> simp [stuffAfter, h]

/-- Before six equal levels the next bit goes out as it is, and continues the run or begins a new one. -/
theorem stuffAfter_cons (last b : Bool) (run : Nat) (rest : List Bool) (h : run ≠ 6) :
    stuffAfter last run (b :: rest) = b :: stuffAfter b (if b = last then run + 1 else 1) rest := by
  by_cases hb : b = last <;> simp [stuffAfter, h, hb]

/-- The run that the next bit makes is at most six where six had not been reached. -/
theorem nextRun_le (last b : Bool) (run : Nat) (hle : run ≤ 6) (h : run ≠ 6) :
    (if b = last then run + 1 else 1) ≤ 6 := by
  split <;> omega

/-! ### No seven equal levels (R20) -/

/-- With `run` levels of `last` before them, the levels bring no run past six. -/
def RunsAtMostSix (last : Bool) (run : Nat) : List Bool → Prop
  | [] => True
  | x :: rest => if x = last then run + 1 ≤ 6 ∧ RunsAtMostSix last (run + 1) rest else RunsAtMostSix x 1 rest

/-- Stuffed bits bring no run past six. -/
theorem runsAtMostSix_stuffAfter (bits : List Bool) :
    ∀ (last : Bool) (run : Nat), run ≤ 6 → RunsAtMostSix last run (stuffAfter last run bits) := by
  induction bits with
  | nil =>
    intro last run _
    rw [stuffAfter_nil]
    split <;> simp [RunsAtMostSix]
  | cons b rest ih =>
    have data (last : Bool) (run : Nat) (hle : run ≤ 6) (h : run ≠ 6) :
        RunsAtMostSix last run (stuffAfter last run (b :: rest)) := by
      rw [stuffAfter_cons last b run rest h, RunsAtMostSix]
      by_cases hb : b = last
      · rw [if_pos hb, if_pos hb, hb]
        exact ⟨by omega, ih _ _ (by omega)⟩
      · rw [if_neg hb, if_neg hb]
        exact ih _ _ (by omega)
    intro last run hle
    by_cases h : run = 6
    · rw [h, stuffAfter_six, RunsAtMostSix, if_neg (by simp)]
      exact data _ _ (by omega) (by omega)
    · exact data last run hle h

/-- Seven equal levels make a run of seven, whatever came before. -/
theorem not_runsAtMostSix_seven (last level : Bool) (run : Nat) (after : List Bool) :
    ¬ RunsAtMostSix last run (List.replicate 7 level ++ after) := by
  by_cases h : level = last <;> simp [List.replicate, RunsAtMostSix, h]

/-- Levels that bring no run past six hold no seven equal ones in a row. -/
theorem not_seven_of_runsAtMostSix (after : List Bool) (level : Bool) :
    ∀ (before : List Bool) (last : Bool) (run : Nat),
      ¬ RunsAtMostSix last run (before ++ List.replicate 7 level ++ after)
  | [], last, run => not_runsAtMostSix_seven last level run after
  | x :: before, last, run => by
    rw [List.cons_append, List.cons_append, RunsAtMostSix]
    split
    · exact fun h => not_seven_of_runsAtMostSix after level before _ _ h.2
    · exact not_seven_of_runsAtMostSix after level before _ _

/-- Settles O17: the start bit and what follows it bring no run past six. -/
theorem stuffedRegionHasNoSevenEqual : Obligations.StuffedRegionHasNoSevenEqual := by
  unfold Obligations.StuffedRegionHasNoSevenEqual
  intro bits before after level h
  cases bits with
  | nil => exact absurd h (by simp [stuff])
  | cons b rest =>
    have sent : RunsAtMostSix b 0 (stuff (b :: rest)) := by
      rw [stuff, RunsAtMostSix, if_pos rfl]
      exact ⟨by decide, runsAtMostSix_stuffAfter rest b 1 (by decide)⟩
    rw [h] at sent
    exact not_seven_of_runsAtMostSix after level before b 0 sent

/-! ### The region's length, known by its class (R175) -/

/-- Every class's region has at least 32 bits. -/
theorem le_regionLength (region : List Bool) (n : Nat) (h : regionLength region = some n) : 32 ≤ n := by
  have least (cls : Nat) : 6 ≤ bodyLength cls := by unfold bodyLength; split <;> decide
  unfold regionLength at h
  split at h
  · exact absurd h (by simp)
  · have := least (bitsAt region 1 2)
    have := Option.some.inj h
    omega

/-- Once the class bits are in, later bits do not change the region's length. -/
theorem regionLength_append (region more : List Bool) (h : 3 ≤ region.length) :
    regionLength (region ++ more) = regionLength region := by
  have same : bitsAt (region ++ more) 1 2 = bitsAt region 1 2 := by
    unfold bitsAt
    rw [List.drop_append_of_le_length (by omega), List.take_append_of_le_length (by rw [List.length_drop]; omega)]
  simp only [regionLength, List.length_append, same]
  rw [if_neg (by omega), if_neg (by omega)]

/-- The region is not complete, nor with any of the next `more` bits, whatever they are. -/
def Unfinished (region : List Bool) (more : Nat) : Prop :=
  ∀ bits : List Bool, bits.length ≤ more → regionLength (region ++ bits) ≠ some (region ++ bits).length

theorem Unfinished.ne {region : List Bool} {more : Nat} (h : Unfinished region more) :
    regionLength region ≠ some region.length := by
  simpa using h [] (Nat.zero_le _)

theorem Unfinished.cons {region : List Bool} {more : Nat} (b : Bool) (h : Unfinished region (more + 1)) :
    Unfinished (region ++ [b]) more := by
  intro bits hlen
  simpa using h (b :: bits) (by simpa using hlen)

theorem Unfinished.mono {region : List Bool} {more less : Nat} (h : Unfinished region more) (hle : less ≤ more) :
    Unfinished region less :=
  fun bits hlen => h bits (hlen.trans hle)

/-- A part of a region is unfinished as long as bits are to come: up to six whatever their levels, since a region that does not
hold its class yet is far from complete. -/
theorem unfinished_of_left (taken left : List Bool) (more : Nat)
    (hlen : regionLength (taken ++ left) = some (taken ++ left).length) (hmore : more ≤ 6) (hleft : more < left.length) :
    Unfinished taken more := by
  intro bits hbits hdone
  have hle := le_regionLength _ _ hdone
  rw [List.length_append] at hle
  have class_in : 3 ≤ taken.length := by omega
  rw [regionLength_append taken bits class_in, ← regionLength_append taken left class_in, hlen, Option.some.injEq,
    List.length_append, List.length_append] at hdone
  omega

/-! ### The receive path over a stuffed region (R20, R32) -/

section Region

variable (region : List Bool) (last b : Bool) (run : Nat) (rest : List Bool)

/-- After six equal levels an opposite one is a stuff bit and is dropped from an unfinished region. -/
theorem receiveRegion_stuffBit (h : regionLength region ≠ some region.length) :
    receiveRegion region last 6 ((!last) :: rest) = receiveRegion region (!last) 1 rest := by
  simp [receiveRegion, h]

/-- After six equal levels a seventh is a stuff error, a dominant one zeroing the count of recessive bit times (R18, R32). -/
theorem receiveRegion_stuffError :
    receiveRegion region last 6 (last :: rest) = .dropped (if last then 7 else 0) := by
  simp [receiveRegion]

/-- Before six equal levels the next level is a bit of an unfinished region. -/
theorem receiveRegion_bit (hrun : run ≠ 6) (h : regionLength region ≠ some region.length) :
    receiveRegion region last run (b :: rest) =
      receiveRegion (region ++ [b]) b (if b = last then run + 1 else 1) rest := by
  simp [receiveRegion, h, hrun]

/-- After a complete region the end field is read, a stuff bit that its last bits call for being passed over (R19, R20). -/
theorem receiveRegion_complete (h : regionLength region = some region.length) :
    receiveRegion region last run (stuffAfter last run [] ++ rest) = receiveEnd region 8 rest := by
  rw [stuffAfter_nil]
  split
  · next hrun => simp [receiveRegion, hrun, h]
  · next hrun =>
    cases rest with
    | nil => simp [receiveRegion, receiveEnd]
    | cons x rest => simp [receiveRegion, hrun, h]

end Region

/-- The receive path takes stuffed bits back to the bits that were stuffed, and goes on to the end field after them. -/
theorem receiveRegion_stuffAfter (tail : List Bool) (bits : List Bool) :
    ∀ (region : List Bool) (last : Bool) (run : Nat), regionLength (region ++ bits) = some (region ++ bits).length →
      receiveRegion region last run (stuffAfter last run bits ++ tail) = receiveEnd (region ++ bits) 8 tail := by
  induction bits with
  | nil =>
    intro region last run h
    rw [List.append_nil] at h ⊢
    exact receiveRegion_complete region last run tail h
  | cons b rest ih =>
    intro region last run h
    have unfinished : regionLength region ≠ some region.length :=
      (unfinished_of_left region (b :: rest) 0 h (by decide) (by simp)).ne
    have bit (last : Bool) (run : Nat) (hrun : run ≠ 6) :
        receiveRegion region last run (stuffAfter last run (b :: rest) ++ tail) =
          receiveEnd (region ++ b :: rest) 8 tail := by
      rw [stuffAfter_cons last b run rest hrun, List.cons_append, receiveRegion_bit _ _ _ _ _ hrun unfinished,
        ih _ _ _ (by simpa using h)]
      simp
    by_cases hrun : run = 6
    · rw [hrun, stuffAfter_six, List.cons_append, receiveRegion_stuffBit _ _ _ unfinished]
      exact bit _ _ (by decide)
    · exact bit last run hrun

/-- A stuffed region read from its start bit on. -/
theorem receive_stuff (bits tail : List Bool) (h : regionLength (false :: bits) = some (false :: bits).length) :
    receive (stuff (false :: bits) ++ tail) = receiveEnd (false :: bits) 8 tail :=
  receiveRegion_stuffAfter tail bits [false] false 1 h

/-! ### Seven equal levels (R20, R32) -/

/-- Levels equal to the run so far drop the frame at the seventh of the run. -/
theorem receiveRegion_run (level : Bool) (rest : List Bool) :
    ∀ (left run : Nat) (region : List Bool), run + left = 6 → Unfinished region left →
      receiveRegion region level run (List.replicate (left + 1) level ++ rest) = .dropped (if level then 7 else 0)
  | 0, run, region, hrun, _ => by
    rw [show run = 6 by omega]
    exact receiveRegion_stuffError region level rest
  | left + 1, run, region, hrun, h => by
    rw [List.replicate_succ, List.cons_append, receiveRegion_bit _ _ _ _ _ (by omega) h.ne, if_pos rfl]
    exact receiveRegion_run level rest left (run + 1) (region ++ [level]) (by omega) (h.cons level)

/-- Seven equal levels drop a frame whose region is six bits or more from complete, whatever the run before them. -/
theorem receiveRegion_seven (region : List Bool) (last level : Bool) (run : Nat) (rest : List Bool) (hrun : run ≤ 6)
    (h : Unfinished region 6) :
    receiveRegion region last run (List.replicate 7 level ++ rest) = .dropped (if level then 7 else 0) := by
  by_cases hl : level = last
  · have split_run : List.replicate 7 level = List.replicate (6 - run + 1) level ++ List.replicate run level := by
      rw [List.replicate_append_replicate, show 6 - run + 1 + run = 7 by omega]
    rw [split_run, List.append_assoc, ← hl]
    exact receiveRegion_run level _ (6 - run) run region (by omega) (h.mono (by omega))
  · have opposite : level = !last := Bool.eq_not_of_ne hl
    rw [List.replicate_succ, List.cons_append]
    by_cases h6 : run = 6
    · rw [h6, opposite, receiveRegion_stuffBit _ _ _ h.ne]
      exact receiveRegion_run _ rest 5 1 region rfl (h.mono (by decide))
    · rw [receiveRegion_bit _ _ _ _ _ h6 h.ne, if_neg hl]
      exact receiveRegion_run _ rest 5 1 _ rfl (h.cons level)

/-- The receive path over a first part of stuffed bits that does not take them all: some of the bits are in, no more than
levels were read, and no check has failed. -/
theorem receiveRegion_part (after : List Bool) (before : List Bool) :
    ∀ (region bits : List Bool) (last : Bool) (run : Nat), run ≤ 6 → stuffAfter last run bits = before ++ after →
      before.length < bits.length → regionLength (region ++ bits) = some (region ++ bits).length →
      ∃ taken left last' run', bits = taken ++ left ∧ taken.length ≤ before.length ∧ run' ≤ 6 ∧
        ∀ tail, receiveRegion region last run (before ++ tail) = receiveRegion (region ++ taken) last' run' tail := by
  induction before with
  | nil =>
    intro region bits last run hrun _ _ _
    exact ⟨[], bits, last, run, rfl, Nat.le_refl _, hrun, fun tail => by simp⟩
  | cons x before ih =>
    intro region bits last run hrun hsent hlt hlen
    cases bits with
    | nil => exact absurd hlt (by simp)
    | cons b bits =>
      have unfinished : regionLength region ≠ some region.length :=
        (unfinished_of_left region (b :: bits) 0 hlen (by decide) (by simp)).ne
      have hlt' : before.length < bits.length := by simpa using hlt
      by_cases h6 : run = 6
      · rw [h6, stuffAfter_six, List.cons_append, List.cons.injEq] at hsent
        obtain ⟨hx, hsent⟩ := hsent
        obtain ⟨taken, left, last', run', hbits, htaken, hrun', hread⟩ :=
          ih region (b :: bits) (!last) 1 (by decide) hsent (by simp; omega) hlen
        refine ⟨taken, left, last', run', hbits, by simp; omega, hrun', fun tail => ?_⟩
        rw [h6, ← hx, List.cons_append, receiveRegion_stuffBit _ _ _ unfinished, hread]
      · rw [stuffAfter_cons last b run bits h6, List.cons_append, List.cons.injEq] at hsent
        obtain ⟨hx, hsent⟩ := hsent
        obtain ⟨taken, left, last', run', hbits, htaken, hrun', hread⟩ :=
          ih (region ++ [b]) bits b _ (nextRun_le last b run hrun h6) hsent hlt' (by simpa using hlen)
        refine ⟨b :: taken, left, last', run', by rw [hbits]; rfl, by simpa using htaken, hrun', fun tail => ?_⟩
        rw [← hx, List.cons_append, receiveRegion_bit _ _ _ _ _ h6 unfinished, hread]
        simp

/-- Seven equal levels within a stuffed region, with at least seven of its bits to come, drop the frame. -/
theorem receive_seven (bits before after rest : List Bool) (level : Bool)
    (hsent : stuff (false :: bits) = before ++ after) (hne : before ≠ []) (hlen : before.length + 7 ≤ (false :: bits).length)
    (h : regionLength (false :: bits) = some (false :: bits).length) :
    receive (before ++ List.replicate 7 level ++ rest) = .dropped (if level then 7 else 0) := by
  cases before with
  | nil => exact absurd rfl hne
  | cons x before =>
    rw [stuff, List.cons_append, List.cons.injEq] at hsent
    obtain ⟨hx, hsent⟩ := hsent
    obtain ⟨taken, left, last', run', hbits, htaken, hrun', hread⟩ :=
      receiveRegion_part after before [false] bits false 1 (by decide) hsent
        (by simp only [List.length_cons] at hlen; omega) h
    have unfinished : Unfinished ([false] ++ taken) 6 := by
      refine unfinished_of_left ([false] ++ taken) left 6 ?_ (by decide) ?_
      · rw [List.append_assoc, ← hbits]; exact h
      · rw [hbits] at hlen
        simp only [List.length_cons, List.length_append] at hlen
        omega
    rw [← hx, List.append_assoc, List.cons_append, receive, hread]
    exact receiveRegion_seven _ last' level run' rest hrun' unfinished

end Machine
end Sys2Proof

/-! Proofs. The fields of a frame and their reading (R19, R21, R32, R175): a field stands where the layout puts it, a body in the ranges
of a transmitter reads back, and so does the whole frame. -/

namespace Sys2Proof
namespace Machine

open Safety

/-! ### Fields of bits -/

@[simp] theorem length_natBits (w n : Nat) : (natBits w n).length = w := by
  induction w generalizing n with
  | zero => rfl
  | succ w ih => simp [natBits, ih]

@[simp] theorem length_intBits (w : Nat) (x : Int) : (intBits w x).length = w := length_natBits _ _

/-- The number that a field's bits spell is what the field can hold of the number written. -/
theorem bitsNat_natBits (w n : Nat) : bitsNat (natBits w n) = n % 2 ^ w := by
  induction w generalizing n with
  | zero => simp [natBits, bitsNat, Nat.mod_one]
  | succ w ih =>
    have last : bit (n % 2 == 1) = n % 2 := by
      rcases Nat.mod_two_eq_zero_or_one n with h | h <;> simp [h, bit]
    have spelled : bitsNat (natBits (w + 1) n) = 2 * bitsNat (natBits w (n / 2)) + bit (n % 2 == 1) := by
      simp [natBits, bitsNat, List.foldl_append]
    rw [spelled, ih, last, Nat.pow_succ', Nat.mod_mul]
    omega

/-- A field at the front. -/
theorem bitsAt_front (w n : Nat) (rest : List Bool) : bitsAt (natBits w n ++ rest) 0 w = n % 2 ^ w := by
  simp [bitsAt, bitsNat_natBits]

/-- A field that is all there is. -/
theorem bitsAt_all (w n : Nat) : bitsAt (natBits w n) 0 w = n % 2 ^ w := by simpa using bitsAt_front w n []

/-- A field after other bits. -/
theorem bitsAt_append (front rest : List Bool) (pos len : Nat) (h : front.length ≤ pos) :
    bitsAt (front ++ rest) pos len = bitsAt rest (pos - front.length) len := by
  simp [bitsAt, List.drop_append, List.drop_eq_nil_of_le h]

theorem bitsAt_cons (b : Bool) (rest : List Bool) (pos len : Nat) :
    bitsAt (b :: rest) (pos + 1) len = bitsAt rest pos len := rfl

theorem flagAt_append (front rest : List Bool) (pos : Nat) (h : front.length ≤ pos) :
    flagAt (front ++ rest) pos = flagAt rest (pos - front.length) := by
  rw [flagAt, flagAt, List.getD_append_right _ _ _ _ h]

theorem flagAt_zero (b : Bool) (rest : List Bool) : flagAt (b :: rest) 0 = b := rfl

theorem flagAt_succ (b : Bool) (rest : List Bool) (pos : Nat) : flagAt (b :: rest) (pos + 1) = flagAt rest pos := rfl

/-- A field that ends before other bits begin. -/
theorem bitsAt_within (front rest : List Bool) (pos len : Nat) (h : pos + len ≤ front.length) :
    bitsAt (front ++ rest) pos len = bitsAt front pos len := by
  unfold bitsAt
  rw [List.drop_append_of_le_length (by omega), List.take_append_of_le_length (by rw [List.length_drop]; omega)]

/-! ### Numbers as fields carry them -/

/-- A value's code fits its field. -/
theorem signedCode_mod (w : Nat) (x : Int) : signedCode w x % 2 ^ w = signedCode w x := by
  refine Nat.mod_eq_of_lt ?_
  have hpos : (0 : Int) < 2 ^ w := by positivity
  have hlt := Int.emod_lt_of_pos x hpos
  unfold signedCode
  zify
  rw [Int.toNat_of_nonneg (Int.emod_nonneg x hpos.ne')]
  exact hlt

theorem bitsAt_signed_front (w : Nat) (x : Int) (rest : List Bool) :
    bitsAt (intBits w x ++ rest) 0 w = signedCode w x := by
  rw [intBits, bitsAt_front, signedCode_mod]

theorem bitsAt_signed_all (w : Nat) (x : Int) : bitsAt (intBits w x) 0 w = signedCode w x := by
  rw [intBits, bitsAt_all, signedCode_mod]

/-- A value of zero or more is its own code. -/
theorem signedCode_of_nonneg (w : Nat) (x : Int) (h0 : 0 ≤ x) (h : x < 2 ^ w) : (signedCode w x : Int) = x := by
  rw [signedCode, Int.emod_eq_of_lt h0 h, Int.toNat_of_nonneg h0]

/-- A sixteen-bit value reads back from its two's complement code. -/
theorem signedNat_signedCode (x : Int) (h : signed16 x) : signedNat 16 (signedCode 16 x) = x := by
  obtain ⟨hlo, hhi⟩ := h
  have coded : ((signedCode 16 x : Nat) : Int) = x % 65536 := by
    rw [signedCode, Int.toNat_of_nonneg (Int.emod_nonneg x (by decide))]
    norm_num
  unfold signedNat
  norm_num
  split <;> omega

/-! ### Codes read back (R175) -/

theorem unitOfCode_code (u : UnitState) : unitOfCode (u.code % 8) = u := by cases u <;> rfl
theorem modeOfCode_code (m : ReportedMode) : modeOfCode (m.code % 4) = m := by cases m <;> rfl
theorem groupOfCode_code (g : GroupState) : groupOfCode (g.code % 8) = g := by cases g <;> rfl
theorem causeOfCode_code (c : ShedCause) : causeOfCode (c.code % 4) = c := by cases c <;> rfl

theorem readRating_code (x : Int) (h : ratingOk x) : readRating (signedCode 15 x) = x := by
  obtain ⟨hlo, hhi⟩ := h
  rw [readRating, signedCode_of_nonneg 15 x (by omega) (by omega), clampInt, if_neg (by omega), if_neg (by omega)]

theorem readCapacity_code (x : Int) (h0 : 0 ≤ x) (h : x ≤ 32000) : readCapacity (signedCode 15 x) = x := by
  rw [readCapacity, signedCode_of_nonneg 15 x h0 (by omega), clampInt, if_neg (by omega), if_neg (by omega)]

theorem readOrder_of_pos (n : Nat) (h : 1 ≤ n) : readOrder n = n := by rw [readOrder, if_neg (by omega)]

/-! ### Bodies read back (R175) -/

/-- A TRIP ALERT's body reads back. -/
theorem readBody_trip (ratedKw p : Int) (h : bodyOk (.alert (.trip ratedKw p))) :
    readBody 0 (FrameBody.alert (.trip ratedKw p)).bits = .alert (.trip ratedKw p) := by
  obtain ⟨hkw, hp⟩ := h
  simp [readBody, FrameBody.bits, bitsAt_append, bitsAt_signed_front, bitsAt_signed_all, readRating_code ratedKw hkw,
    signedNat_signedCode p hp]

/-- A SHED ALERT's body reads back. -/
theorem readBody_shed (cut : Nat) (cause : ShedCause) (h : bodyOk (.alert (.shed cut cause))) :
    readBody 1 (FrameBody.alert (.shed cut cause)).bits = .alert (.shed cut cause) := by
  have hcut : cut % 16 = cut := Nat.mod_eq_of_lt (Nat.lt_succ_of_le h)
  simp [readBody, FrameBody.bits, bitsAt_append, bitsAt_front, bitsAt_all, causeOfCode_code, hcut]

/-- A GEN-STATE body within a transmitter's ranges reads back. -/
theorem readGenBody_bits (b : GenBody) (h : bodyOk (.gen b)) : readGenBody b.bits = b := by
  obtain ⟨horder, horder', hkw, hkvar, hcap, hcap', hp, hq, hcut⟩ := h
  have order_fits : b.startOrder % 16 = b.startOrder := Nat.mod_eq_of_lt (by omega)
  have cut_fits : b.cut % 16 = b.cut := Nat.mod_eq_of_lt (by omega)
  simp [readGenBody, GenBody.bits, bitsAt_append, bitsAt_front, bitsAt_all, bitsAt_cons, bitsAt_signed_front, flagAt_append,
    flagAt_zero, flagAt_succ, unitOfCode_code, modeOfCode_code, order_fits, cut_fits, readOrder_of_pos _ horder,
    readRating_code _ hkw, readRating_code _ hkvar, readCapacity_code _ hcap hcap', signedNat_signedCode _ hp,
    signedNat_signedCode _ hq]

@[simp] theorem length_groupEntryBits (e : GroupEntry) : e.bits.length = 22 := by simp [GroupEntry.bits]

/-- A field of the group entry at a place of a list of entries. -/
theorem bitsAt_groupEntries (pos len : Nat) (h : pos + len ≤ 22) (l : List GroupEntry) :
    ∀ (i : Nat) (hi : i < l.length), bitsAt (l.flatMap GroupEntry.bits) (22 * i + pos) len = bitsAt l[i].bits pos len := by
  induction l with
  | nil => exact fun i hi => absurd hi (by simp)
  | cons e rest ih =>
    intro i hi
    rw [List.flatMap_cons]
    cases i with
    | zero => rw [Nat.mul_zero, Nat.zero_add, bitsAt_within _ _ _ _ (by simpa using h)]; rfl
    | succ i =>
      rw [bitsAt_append _ _ _ _ (by rw [length_groupEntryBits]; omega), length_groupEntryBits,
        show 22 * (i + 1) + pos - 22 = 22 * i + pos by omega, ih i (by simpa using hi)]
      rfl

/-- The group entries stand after the nine bits of a FEED-STATE body's head. -/
theorem bitsAt_feedGroup (b : FeedBody) (g : Fin 8) (pos len : Nat) (h : pos + len ≤ 22) :
    bitsAt b.bits (9 + (22 * g.val + pos)) len = bitsAt b.groups[g].bits pos len := by
  rw [FeedBody.bits, bitsAt_append _ _ _ _ (by simp)]
  have entry := bitsAt_groupEntries pos len h b.groups.toList g.val (by simp)
  simpa using entry

/-- The fields of a group entry within a transmitter's ranges read back. -/
theorem readGroupEntry_bits (e : GroupEntry) (hrank : e.rank ≤ 15) (h0 : 0 ≤ e.load) (hload : e.load ≤ 32767) :
    ({ rank := bitsAt e.bits 0 4, state := groupOfCode (bitsAt e.bits 4 3), load := (bitsAt e.bits 7 15 : Int) } :
      GroupEntry) = e := by
  have rank_fits : e.rank % 16 = e.rank := Nat.mod_eq_of_lt (by omega)
  simp [GroupEntry.bits, bitsAt_append, bitsAt_front, bitsAt_signed_all, groupOfCode_code, rank_fits,
    signedCode_of_nonneg 15 e.load h0 (by omega)]

/-- A FEED-STATE body within a transmitter's ranges reads back. -/
theorem readFeedBody_bits (b : FeedBody) (h : bodyOk (.feed b)) : readFeedBody b.bits = b := by
  obtain ⟨hcut, hgroups⟩ := h
  have cut_fits : b.cut % 16 = b.cut := Nat.mod_eq_of_lt (by omega)
  have groups : (readFeedBody b.bits).groups = b.groups := by
    refine Vector.ext fun i hi => ?_
    obtain ⟨hrank, h0, hload⟩ := hgroups ⟨i, hi⟩
    have entry := readGroupEntry_bits b.groups[i] hrank h0 hload
    have place (pos len : Nat) (hp : pos + len ≤ 22) :
        bitsAt b.bits (9 + pos + 22 * i) len = bitsAt b.groups[i].bits pos len := by
      rw [show 9 + pos + 22 * i = 9 + (22 * i + pos) by omega]
      exact bitsAt_feedGroup b ⟨i, hi⟩ pos len hp
    rw [← place 0 4 (by decide), ← place 4 3 (by decide), ← place 7 15 (by decide)] at entry
    simpa [readFeedBody] using entry
  have head : readFeedBody b.bits = { b with groups := (readFeedBody b.bits).groups } := by
    simp [readFeedBody, FeedBody.bits, bitsAt_front, bitsAt_cons, flagAt_zero, flagAt_succ, cut_fits]
  rw [head, groups]

/-- Every body that a station can send reads back by its class. -/
theorem readBody_bits (b : FrameBody) (h : bodyOk b) : readBody b.classCode b.bits = b := by
  cases b with
  | alert a =>
    cases a with
    | trip ratedKw p => exact readBody_trip ratedKw p h
    | shed cut cause => exact readBody_shed cut cause h
  | gen b => exact congrArg FrameBody.gen (readGenBody_bits b h)
  | feed b => exact congrArg FrameBody.feed (readFeedBody_bits b h)

/-! ### The whole frame (R19, R21, R32) -/

/-- Every class's body has its length, whatever its values (R175). -/
@[simp] theorem length_bodyBits (b : FrameBody) : b.bits.length = bodyLength b.classCode := by
  cases b with
  | alert a => cases a <;> simp [FrameBody.bits, FrameBody.classCode, bodyLength]
  | gen b => simp [FrameBody.bits, GenBody.bits, FrameBody.classCode, bodyLength]
  | feed b =>
    have entries : (b.groups.toList.map fun e => e.bits.length).sum = 176 := by simp
    simp [FrameBody.bits, FeedBody.bits, FrameBody.classCode, bodyLength, List.length_flatMap]

theorem classCode_mod (b : FrameBody) : b.classCode % 4 = b.classCode := by
  cases b with
  | alert a => cases a <;> rfl
  | gen b => rfl
  | feed b => rfl

@[simp] theorem length_checked (f : Frame) : f.checked.length = 9 + bodyLength f.body.classCode := by
  simp [Frame.checked]
  omega

/-- The class stands right after the start bit, and so the region's length is known from it (R19). -/
theorem regionLength_checked (f : Frame) (check : List Bool) (h : check.length = 16) :
    regionLength (false :: (f.checked ++ check)) = some (false :: (f.checked ++ check)).length := by
  have cls : bitsAt (false :: (f.checked ++ check)) 1 2 = f.body.classCode := by
    simp [Frame.checked, bitsAt_cons, bitsAt_front, classCode_mod]
  simp only [regionLength, cls, List.length_cons, List.length_append, length_checked, h]
  rw [if_neg (by omega), Option.some.injEq]
  omega

/-- Eight recessive bits are a whole end field, whatever follows (R19). -/
theorem receiveEnd_recessive (region rest : List Bool) :
    receiveEnd region 8 (endField ++ rest) = readRegion region := by
  simp [endField, List.replicate, receiveEnd]

/-- A dominant bit among the end bits drops the frame (R32). -/
theorem receiveEnd_dominant (region rest : List Bool) :
    ∀ left k, k < left → receiveEnd region left (List.replicate k true ++ false :: rest) = .dropped 0
  | left + 1, 0, _ => by simp [receiveEnd]
  | left + 1, k + 1, h => by
    rw [List.replicate_succ, List.cons_append, receiveEnd, if_pos rfl]
    exact receiveEnd_dominant region rest left k (by omega)

/-- A region is read by its check: what stands before its last sixteen bits is checked against them (R21). -/
theorem readRegion_checked (f : Frame) (check : List Bool) (h : check.length = 16) :
    readRegion (false :: (f.checked ++ check)) =
      if natBits 16 (crc16 f.checked).toNat = check then
        .valid { source := Fin.ofNat 16 (bitsAt f.checked 2 4), sect := if flagAt f.checked 6 then .b else .a,
                 period := bitsAt f.checked 7 2, body := readBody (bitsAt f.checked 0 2) (f.checked.drop 9) }
      else .dropped 0 := by
  have split_at : (f.checked ++ check).length - 16 = f.checked.length := by rw [List.length_append, h]; omega
  simp only [readRegion, List.drop_succ_cons, List.drop_zero, split_at, List.take_left', List.drop_left']

/-- The fields of a frame that a station can send read back (R19, R175). -/
theorem readFields_checked (f : Frame) (h : frameOk f) :
    ({ source := Fin.ofNat 16 (bitsAt f.checked 2 4), sect := if flagAt f.checked 6 then .b else .a,
       period := bitsAt f.checked 7 2, body := readBody (bitsAt f.checked 0 2) (f.checked.drop 9) } : Frame) = f := by
  obtain ⟨hperiod, hbody⟩ := h
  have period_fits : f.period % 4 = f.period := Nat.mod_eq_of_lt (by omega)
  have source_fits : f.source.val % 16 = f.source.val := Nat.mod_eq_of_lt f.source.isLt
  have body := readBody_bits f.body hbody
  have sect (rest : List Bool) :
      (if flagAt (natBits 1 (sectCode f.sect) ++ rest) 0 then Sect.b else Sect.a) = f.sect := by cases f.sect <;> rfl
  have left : f.checked.drop 9 = f.body.bits := List.drop_left' (by simp)
  rw [left]
  simp [Frame.checked, bitsAt_append, bitsAt_front, flagAt_append, period_fits, source_fits, classCode_mod, body, sect]

/-- A frame's levels are read up to its check, and after it the end field. -/
theorem receive_region (f : Frame) (tail : List Bool) :
    receive (stuff f.region ++ tail) = receiveEnd f.region 8 tail :=
  receive_stuff _ tail (regionLength_checked f _ (length_natBits _ _))

/-- A frame sent whole is read by its check alone. -/
theorem receive_checked (f : Frame) (check rest : List Bool) (h : check.length = 16) :
    receive (stuff (false :: (f.checked ++ check)) ++ endField ++ rest) =
      readRegion (false :: (f.checked ++ check)) := by
  rw [List.append_assoc, receive_stuff _ _ (regionLength_checked f check h), receiveEnd_recessive]

/-- A frame that a station can send is read back whole, whatever levels follow. -/
theorem receive_levels (f : Frame) (rest : List Bool) (h : frameOk f) : receive (f.levels ++ rest) = .valid f := by
  have checked : (natBits 16 (crc16 f.checked).toNat).length = 16 := length_natBits _ _
  rw [Frame.levels, Frame.region, receive_checked f _ rest checked, readRegion_checked f _ checked, if_pos rfl,
    readFields_checked f h]

/-- Settles O16. -/
theorem receiveReadsSentFrame : Obligations.ReceiveReadsSentFrame := by
  unfold Obligations.ReceiveReadsSentFrame
  exact fun f rest h => receive_levels f rest h

/-- A check that is not that of the bits before it drops the frame (R21, R32). -/
theorem receive_wrongCheck (f : Frame) (check rest : List Bool) (h : check.length = 16)
    (hne : check ≠ natBits 16 (crc16 f.checked).toNat) :
    receive (stuff (false :: (f.checked ++ check)) ++ endField ++ rest) = .dropped 0 := by
  rw [receive_checked f check rest h, readRegion_checked f check h, if_neg (Ne.symm hne)]

/-- A dominant bit among the eight end bits drops the frame (R19, R32). -/
theorem receive_dominantEnd (f : Frame) (rest : List Bool) (k : Nat) (h : k < 8) :
    receive (stuff f.region ++ List.replicate k true ++ false :: rest) = .dropped 0 := by
  rw [List.append_assoc, receive_region, receiveEnd_dominant _ rest 8 k h]

/-- Seven equal levels in a frame's stuffed region drop it (R20, R32). -/
theorem receive_sevenEqual (f : Frame) (before after rest : List Bool) (level : Bool)
    (hsent : stuff f.region = before ++ after) (hne : before ≠ []) (hlen : before.length + 7 ≤ f.region.length) :
    receive (before ++ List.replicate 7 level ++ rest) = .dropped (if level then 7 else 0) :=
  receive_seven _ before after rest level hsent hne hlen (regionLength_checked f _ (length_natBits _ _))

end Machine
end Sys2Proof

/-! Proofs. The commands of the share link: the line monitor, frames that pass by or are dropped, the start of an own frame and its
outcome (R18, R22 to R33). -/

namespace Sys2Proof
namespace Machine

open Safety

/-! ### The line monitor and frames not taken (R18, R31, R36) -/

/-- What replaces the link alone keeps every other block. -/
theorem kept_setLink (l : Link) (s : State) : Kept [.link] s (s.setLink l) := by simp [Kept]

/-- A dominant bit of another station makes the line BUSY with the count 0, and from IDLE begins a reception in LISTEN, RUN,
FALLBACK and SILENT (R18, R31). -/
theorem exec_lineBusy (s : State) :
    exec .lineBusy s = .next (s.setLink { s.link with
      monitor := .busy, recessive := 0, startRead := true,
      receiving := s.link.receiving || (decide (s.link.monitor = .idle) && s.ctl.station.active) }) := rfl

/-- The levels of a frame whose start bit was not taken move the line monitor alone (R31). -/
theorem exec_frameReceived_passes (line : List Bool) (first : Bool) (s : State)
    (h : s.ctl.station.active = false ∨ s.link.receiving = false) :
    exec (.frameReceived line first) s = .next (s.setLink (s.link.passed line)) := by
  have not_taken : ¬ s.takesFrame = true := by rcases h with h | h <;> simp [State.takesFrame, h]
  rw [exec, execFrameReceived, if_neg not_taken, passBy]

/-- A frame in reception that fails a check of R32 is dropped. -/
theorem exec_frameReceived_dropped (line : List Bool) (first : Bool) (n : Nat) (s : State)
    (ha : s.ctl.station.active = true) (hr : s.link.receiving = true) (h : receive line = .dropped n) :
    exec (.frameReceived line first) s = .next (dropFrame line n s) := by
  have taken : s.takesFrame = true := by simp [State.takesFrame, ha, hr]
  simp [exec, execFrameReceived, taken, h]

/-- A frame in reception that is whole is valid at its last end bit (R32). -/
theorem exec_frameReceived_valid (f : Frame) (first : Bool) (s : State) (hf : frameOk f)
    (ha : s.ctl.station.active = true) (hr : s.link.receiving = true) :
    exec (.frameReceived f.levels first) s = .next (validFrame f.levels f first s) := by
  have taken : s.takesFrame = true := by simp [State.takesFrame, ha, hr]
  have read : receive f.levels = .valid f := by simpa using receive_levels f [] hf
  simp [exec, execFrameReceived, taken, read]

/-- What passes by changes the line monitor and the count alone (R18, R31). -/
theorem Link.passed_kept (line : List Bool) (l : Link) :
    l.passed line = { l with monitor := (l.passed line).monitor, recessive := (l.passed line).recessive } := by
  unfold Link.passed
  split <;> rfl

/-- Settles O36: the commands of the line one by one, and the checks by what the receive path makes of the levels. -/
theorem lineMonitorAndDroppedFrames : Obligations.LineMonitorAndDroppedFrames := by
  unfold Obligations.LineMonitorAndDroppedFrames
  refine ⟨fun s => ⟨fun hf => ?_, ?_⟩, fun line first s => ⟨fun n ha hr hf hd => ?_, fun h => ?_, fun h => ⟨fun n hd => ?_,
    fun f rest hf hline => ?_⟩⟩, fun f rest => ⟨fun check hlen hne => ?_, fun k hk => ?_,
    fun before after level hsent hne hlen => ?_⟩⟩
  · exact ⟨_, if_pos hf, rfl, kept_setLink _ s⟩
  · exact ⟨_, exec_lineBusy s, rfl, rfl, fun hm hr => by simp [hm, hr], fun hm => by simp [hm], rfl, rfl, rfl, rfl, rfl,
      kept_setLink _ s⟩
  · refine ⟨_, exec_frameReceived_dropped line first n s ha hr hd, ?_⟩
    rw [dropFrame, hf]
    exact ⟨rfl, kept_setLink _ s⟩
  · exact ⟨_, exec_frameReceived_passes line first s h, Link.passed_kept line s.link, kept_setLink _ s⟩
  · exact ⟨_, exec_frameReceived_passes line first s h, Link.passed_dropped line n s.link hd, kept_setLink _ s⟩
  · have read : receive line = .valid f := by rw [hline]; exact receive_levels f rest hf
    exact ⟨_, exec_frameReceived_passes line first s h, Link.passed_valid line f s.link read, kept_setLink _ s⟩
  · exact receive_wrongCheck f check rest hlen hne
  · exact receive_dominantEnd f rest k hk
  · exact receive_sevenEqual f before after rest level hsent hne hlen

/-! ### The start of an own frame (R22, R23, R26, R27) -/

/-- On an idle line a station in RUN or FALLBACK begins the frame it offers, if it offers one (R22). -/
theorem exec_frameStart (s : State) (ht : s.ctl.station.transmits = true) (hm : s.link.monitor = .idle)
    (hf : s.link.flight = none) (x : Bool × Frame) (h : s.offer = some x) :
    exec .frameStart s = .next (s.setLink (s.link.begin x.1 x.2)) := by
  rw [exec, execFrameStart, if_pos ⟨ht, hm, hf⟩, h]

theorem offer_of_alerts (s : State) (a : Alert) (rest : List Alert) (h : s.link.alerts = a :: rest) :
    s.offer = some (true, s.ownFrame (.alert a)) := by rw [State.offer, h]

theorem offer_of_no_alerts (s : State) (h : s.link.alerts = []) :
    s.offer = if s.link.statePending then some (false, s.ownFrame s.stateBody) else none := by rw [State.offer, h]

/-- The arbitration field is read off class and address alone (R23). -/
theorem Frame.arbitration_eq (f : Frame) :
    f.arbitration =
      (stuff ((false :: (natBits 2 f.body.classCode ++ natBits 4 f.source.val)).take 6)).length + 1 := by
  have front : f.region.take 6 = (false :: (natBits 2 f.body.classCode ++ natBits 4 f.source.val)).take 6 := by
    simp [Frame.region, Frame.checked, List.take_append]
  rw [Frame.arbitration, front]

/-- A TRIP ALERT of address 0 or 1 begins with six dominant bits in a row (R20, R23). -/
theorem arbitration_trip (f : Frame) (h : f.body.classCode = 0) :
    f.arbitration = if f.source.val ≤ 1 then 8 else 7 := by
  have all : ∀ a : Address, (stuff ((false :: (natBits 2 0 ++ natBits 4 a.val)).take 6)).length + 1 =
      if a.val ≤ 1 then 8 else 7 := by decide
  rw [Frame.arbitration_eq, h, all]

/-- No frame of another class has a stuff bit in its arbitration field (R20, R23). -/
theorem arbitration_other (f : Frame) (h : f.body.classCode ∈ [1, 2, 3]) : f.arbitration = 7 := by
  have all : ∀ cls ∈ [1, 2, 3], ∀ a : Address,
      (stuff ((false :: (natBits 2 cls ++ natBits 4 a.val)).take 6)).length + 1 = 7 := by decide
  rw [Frame.arbitration_eq, all _ h]

/-- A station's state frame is of class GEN-STATE or FEED-STATE (R27). -/
theorem stateBody_classCode (s : State) : s.stateBody.classCode ∈ [1, 2, 3] := by
  unfold State.stateBody
  cases s.ctl.straps.role <;> simp [FrameBody.classCode]

/-- Settles O37: the frame begun is the one offered, and its arbitration field is counted class by class. -/
theorem frameStartSendsAlertFirst : Obligations.FrameStartSendsAlertFirst := by
  unfold Obligations.FrameStartSendsAlertFirst
  refine fun s ht hm hf => ⟨fun a rest ha => ?_, fun ha hp => ?_, fun ha hp => ?_⟩
  · refine ⟨_, _, exec_frameStart s ht hm hf _ (offer_of_alerts s a rest ha), rfl, rfl, rfl, ?_, rfl, ?_, rfl,
      kept_setLink _ s⟩
    · cases a with
      | trip ratedKw p => exact arbitration_trip _ rfl
      | shed cut cause => exact arbitration_other _ (by simp [State.ownFrame, FrameBody.classCode])
    · simp [Link.begin]
  · have offered : s.offer = some (false, s.ownFrame s.stateBody) := by rw [offer_of_no_alerts s ha, if_pos hp]
    exact ⟨_, _, _, exec_frameStart s ht hm hf _ offered, rfl, rfl, rfl, arbitration_other _ (stateBody_classCode s), rfl,
      rfl, rfl, rfl, by simp [Link.begin], by simp [Link.begin], rfl, kept_setLink _ s⟩
  · have offered : s.offer = none := by rw [offer_of_no_alerts s ha, if_neg (by simp [hp])]
    rw [exec, execFrameStart, if_pos ⟨ht, hm, hf⟩, offered]

/-! ### The outcome of an own frame (R23, R28, R29, R33) -/

/-- Transmit failure in RUN enters FALLBACK with BIAS-VALID not asserted, the need timers and the restore timer at 0 and LINK
raised; the cut rank stands (R64, R86, R93, R116, R148). -/
theorem enterFallback_spec (s : State) :
    (enterFallback s).ls.biasValid = false ∧ (enterFallback s).demand.startNeed = 0 ∧
    (enterFallback s).demand.stopNeed = 0 ∧ (enterFallback s).shed.restore = 0 ∧
    (enterFallback s).shed.cut = s.shed.cut ∧ flagOf (enterFallback s) .link = true := by
  refine ⟨?_, by simp [enterFallback, zeroNeedTimers], by simp [enterFallback, zeroNeedTimers],
    by simp [enterFallback, zeroNeedTimers, zeroRestore], by simp [enterFallback, zeroNeedTimers, zeroRestore], ?_⟩
  · rw [enterFallback, refreshBias_biasValid]
    simp [State.biasLevel, zeroNeedTimers]
  · refine flagsKept_refreshBias _ _ ?_
    rw [flagOf_congr (zeroNeedTimers_port _), flagOf_raise]
    simp

theorem errFrame_link (fl : Flight) (s : State) : (errFrame fl s).link = s.link.erred fl := by
  rw [errFrame_def]
  split <;> simp

/-- Elsewhere than at the fourth error in RUN a transmit error changes the link alone (R29, R148). -/
theorem errFrame_eq (fl : Flight) (s : State) (h : s.link.errors ≠ 3 ∨ s.ctl.station ≠ .run) :
    errFrame fl s = s.setLink (s.link.erred fl) := by
  rw [errFrame_def]
  split
  · next h3 => exact if_neg (h.resolve_left (not_not_intro h3))
  · rfl

/-- The fourth error in RUN is transmit failure, and a record is sent at the entry to FALLBACK (R29, R80, R148). -/
theorem errFrame_failure (fl : Flight) (s : State) (h : s.link.errors = 3) (hs : s.ctl.station = .run) :
    errFrame fl s = sendActuator (enterFallback (s.setLink (s.link.erred fl))) := by
  rw [errFrame_def, if_pos h]
  exact if_pos hs

/-- The state in which a transmit error leaves the station: the error, and at a start bit that was read recessive the line
IDLE as it was (R18, R29). -/
theorem exec_transmitError (s : State) (fl : Flight) (h : s.link.flight = some fl) :
    exec .transmitError s = .next (if s.link.startRead then errFrame fl s else errStartBit fl s) := by
  rw [exec, execTransmitError, h]

/-- Wherever the error fell, the frame is abandoned and counted alike (R28, R29). -/
theorem transmitError_spec (fl : Flight) (s t : State)
    (h : t = if s.link.startRead then errFrame fl s else errStartBit fl s) :
    t.link.flight = none ∧ t.link.errors = min (s.link.errors + 1) 4 ∧ t.link.outcome = .error ∧
    t.link.statePending = s.link.statePending ∧
    t.link.alerts = (if fl.isAlert then s.link.alerts.tail else s.link.alerts) ∧
    t.ctl = (errFrame fl s).ctl ∧ t.ls = (errFrame fl s).ls ∧ t.demand = (errFrame fl s).demand ∧
    t.shed = (errFrame fl s).shed ∧ t.port = (errFrame fl s).port := by
  subst h
  split <;> simp [errFrame_link, Link.erred, Link.finish, Link.neverBusy]

/-- Settles O38: loss by what it moves back, error by whether it is the fourth in RUN. -/
theorem frameOutcomes : Obligations.FrameOutcomes := by
  unfold Obligations.FrameOutcomes
  refine ⟨fun s fl hf => ?_, fun s fl hf => ⟨_, exec_transmitError s fl hf, ?_⟩⟩
  · have lost : exec .arbitrationLoss s = .next (loseFrame fl s) := by rw [exec, execArbitrationLoss, hf]
    exact ⟨_, lost, rfl, rfl, rfl, rfl, fun h => by simp [loseFrame, h], fun h => by simp [loseFrame, h],
      kept_setLink _ s⟩
  · obtain ⟨hflight, herrors, houtcome, hpending, halerts, hctl, hls, hdemand, hshed, hport⟩ := transmitError_spec fl s _ rfl
    refine ⟨hflight, herrors, houtcome, hpending, halerts, fun h3 hs => ?_, fun h => ?_⟩
    · obtain ⟨hbias, hstart, hstop, hrestore, hcut, hlink⟩ := enterFallback_spec (s.setLink (s.link.erred fl))
      rw [hctl, hls, hdemand, hshed, flagOf_congr hport, errFrame_failure fl s h3 hs, sendActuator_biasValid]
      simp only [sendActuator_ctl, sendActuator_demand, sendActuator_shed, flagOf_congr (sendActuator_port _)]
      exact ⟨by rw [enterFallback_ctl], by rw [enterFallback_ctl], hlink, hbias, hstart, hstop, hrestore, hcut⟩
    · split
      · rw [errFrame_eq fl s h]; exact kept_setLink _ s
      · rw [errStartBit, errFrame_eq fl s h]; simp [Kept]

/-- Levels read as they were sent differ nowhere (R33). -/
theorem firstDifference_self (levels : List Bool) : ∀ place, firstDifference place levels levels = none := by
  induction levels with
  | nil => exact fun _ => rfl
  | cons x rest ih => exact fun place => by rw [firstDifference, if_pos rfl, ih]

/-- Settles O39: its levels read as sent make the frame the station's own. -/
theorem ownFrameIsSuccess : Obligations.OwnFrameIsSuccess := by
  unfold Obligations.OwnFrameIsSuccess
  intro f first isAlert arb s hf ha hr hflight
  have judged : Flight.judge { isAlert := isAlert, arbitration := arb, levels := f.levels } f.levels = .sent := by
    rw [Flight.judge, firstDifference_self]
  refine ⟨_, exec_frameReceived_valid f first s hf ha hr, ?_⟩
  rw [validFrame, hflight]
  simp only [judged]
  exact ⟨rfl, rfl, rfl, rfl, rfl, fun h => by simp [endReception, sendFrame, Link.finish, h], by simp [Kept]⟩

end Machine
end Sys2Proof

/-! Proofs. Frame arrivals: address clash, the peer table, TRIP ALERTs with the immediate sums, adoption (R34 to R40, R44, R52,
R114). -/

namespace Sys2Proof
namespace Machine

open Safety

/-! ### A whole frame of another station (R34, R35) -/

/-- A station that drives no frame takes a whole frame once its reception has ended: a clash or an arrival (R34, R35). -/
theorem exec_frameReceived_taken (f : Frame) (first : Bool) (s : State) (hf : frameOk f)
    (ha : s.ctl.station.active = true) (hr : s.link.receiving = true) (hfl : s.link.flight = none) :
    exec (.frameReceived f.levels first) s = .next (takeFrame f first (endReception 0 s)) := by
  rw [exec_frameReceived_valid f first s hf ha hr, validFrame, hfl]

/-- A frame of another address is an arrival (R34). -/
theorem exec_frameReceived_arrives (f : Frame) (first : Bool) (s : State) (hf : frameOk f)
    (ha : s.ctl.station.active = true) (hr : s.link.receiving = true) (hfl : s.link.flight = none)
    (hne : f.source ≠ s.ctl.straps.address) :
    exec (.frameReceived f.levels first) s = .next (arrive f first (endReception 0 s)) := by
  rw [exec_frameReceived_taken f first s hf ha hr hfl]
  exact congrArg _ (if_neg hne)

/-- The end of a reception changes the link alone (R18). -/
theorem kept_endReception (n : Nat) (s : State) : Kept [.link] s (endReception n s) := kept_setLink _ s

/-! ### Address clash (R35, R150) -/

theorem flagsKept_takeUpSet (s : State) : FlagsKept s (takeUpSet s) := by
  unfold takeUpSet
  split
  · exact (flagsKept_setLs _ s).trans (flagsKept_raise .unit _)
  · exact .refl s

/-- SILENT is entered with the counters at 0, and then BIAS-VALID follows and a record is sent (R64, R80, R150). -/
theorem enterSilent_eq (s : State) :
    ∃ u, enterSilent s = sendActuator (refreshBias u) ∧
      u.ctl = { s.ctl with station := .silent, listenCount := 0, fallbackCount := 0 } ∧ u.shed.cut = s.shed.cut ∧
      FlagsKept s u := by
  refine ⟨_, rfl, ?_, ?_, ?_⟩
  · split <;> simp
  · split <;> simp [zeroNeedTimers, zeroRestore]
  · split
    · exact fun flag hflag => flagsKept_takeUpSet _ flag hflag
    · exact .of_port rfl

/-- After the entry to SILENT BIAS-VALID is not asserted, the cut rank is as it was and no flag has cleared (R64, R150). -/
theorem enterSilent_spec (s : State) :
    (enterSilent s).ctl = { s.ctl with station := .silent, listenCount := 0, fallbackCount := 0 } ∧
    (enterSilent s).ls.biasValid = false ∧ (enterSilent s).shed.cut = s.shed.cut ∧ FlagsKept s (enterSilent s) := by
  obtain ⟨u, entered, hctl, hcut, hflags⟩ := enterSilent_eq s
  rw [entered]
  refine ⟨by simpa using hctl, ?_, by simpa using hcut,
    hflags.trans ((flagsKept_refreshBias u).trans (flagsKept_sendActuator _))⟩
  rw [sendActuator_biasValid, refreshBias_biasValid]
  simp [State.biasLevel, hctl]

/-- Settles O40: the clash by the station state it meets. -/
theorem addressClashSilences : Obligations.AddressClashSilences := by
  unfold Obligations.AddressClashSilences
  intro f first s hf hsrc hr hfl
  have taken : takeFrame f first (endReception 0 s) = addressClash (endReception 0 s) := if_pos hsrc
  refine ⟨fun hs => ?_, fun hs => ?_⟩
  · have ha : s.ctl.station.active = true := by rcases hs with hs | hs | hs <;> rw [hs] <;> rfl
    refine ⟨_, exec_frameReceived_taken f first s hf ha hr hfl, ?_⟩
    have clash : addressClash (endReception 0 s) = enterSilent (raise .clash (endReception 0 s)) := if_pos hs
    obtain ⟨hctl, hbias, hcut, hflags⟩ := enterSilent_spec (raise .clash (endReception 0 s))
    rw [taken, clash, hctl, enterSilent_link]
    exact ⟨rfl, hflags _ (by simp), rfl, rfl, rfl, rfl, rfl, rfl, hbias, by simp, hcut, by simp, by simp⟩
  · have ha : s.ctl.station.active = true := by rw [hs]; rfl
    refine ⟨_, exec_frameReceived_taken f first s hf ha hr hfl, ?_⟩
    have dropped : addressClash (endReception 0 s) = endReception 0 s :=
      if_neg (by rw [endReception_ctl, hs]; decide)
    rw [taken, dropped]
    exact kept_endReception 0 s

/-! ### The tie state and the immediate sums (R44, R52) -/

/-- A derivation leaves the peer table and the own mark; where the state derived is the one held it changes nothing (R44). -/
theorem deriveTieNow_of_same (s : State) (h : (deriveTieNow s).view.tieClosed = s.view.tieClosed) : deriveTieNow s = s := by
  rw [deriveTieNow_tieClosed] at h
  exact if_pos h

theorem deriveTieNow_ownReported (s : State) : (deriveTieNow s).view.ownReported = s.view.ownReported := by
  unfold deriveTieNow
  split <;> simp [formSums]

theorem follows_deriveIf (c : Bool) (s : State) : Follows s (deriveIf c s) := .ite fun _ => follows_deriveTieNow s

theorem deriveIf_of_same (c : Bool) (s : State) (h : (deriveIf c s).view.tieClosed = s.view.tieClosed) :
    deriveIf c s = s := by
  cases c
  · rfl
  · exact deriveTieNow_of_same s h

theorem deriveIf_ownReported (c : Bool) (s : State) : (deriveIf c s).view.ownReported = s.view.ownReported := by
  cases c
  · rfl
  · exact deriveTieNow_ownReported s

/-! ### State frames (R38) -/

/-- An entry put into the table is found at its address, and the entries of other addresses stand (R37). -/
theorem findPeer_enterPeer (e : PeerEntry) (s t : State) (ht : t.view.peers = (enterPeer e s).view.peers) :
    findPeer t.view.peers e.address = some e ∧
    ∀ a, a ≠ e.address → findPeer t.view.peers a = findPeer s.view.peers a := by
  rw [ht]
  exact ⟨findPeer_putPeer_same e _, fun a ha => findPeer_putPeer_other e _ a ha⟩

/-- The entry of a GEN-STATE, whatever stood at its address (R38). -/
theorem genArrival_spec (f : Frame) (b : GenBody) (old : Option PeerEntry) :
    ∃ transfer, genArrival f b old =
      { address := f.source, role := .genset, sect := f.sect, period := f.period, state := .fresh, age := 0,
        body := .gen b, tripped := false, transfer := transfer, heard := true } := by
  unfold genArrival
  cases old with
  | none => exact ⟨_, rfl⟩
  | some e => dsimp only; split <;> exact ⟨_, rfl⟩

/-- The entry of a FEED-STATE, whatever stood at its address (R38). -/
theorem feedArrival_spec (f : Frame) (b : FeedBody) (old : Option PeerEntry) :
    ∃ tripped transfer heard, feedArrival f b old =
      { address := f.source, role := .feeder, sect := f.sect, period := f.period, state := .fresh, age := 0,
        body := .feed b, tripped := tripped, transfer := transfer, heard := heard } := by
  unfold feedArrival
  cases old with
  | none => exact ⟨_, _, _, rfl⟩
  | some e => dsimp only; split <;> exact ⟨_, _, _, rfl⟩

/-- No FEEDER entry at an address: none at all, or one of another role. -/
theorem wasFeeder_eq_false (old : Option PeerEntry) (h : ∀ e, old = some e → e.role ≠ .feeder) : wasFeeder old = false := by
  cases old with
  | none => rfl
  | some e => exact decide_eq_false (h e rfl)

/-- Settles O41, class by class: the entry is put into the table, and a derivation of the tie state leaves the table. -/
theorem stateFrameFillsPeerEntry : Obligations.StateFrameFillsPeerEntry := by
  unfold Obligations.StateFrameFillsPeerEntry
  intro f first s hf hne hp ha hr hfl _
  have arrives := exec_frameReceived_arrives f first s hf ha hr hfl hne
  have own_period : f.period = (endReception 0 s).ctl.cfg.period := hp
  refine ⟨fun b hb => ?_, fun b hb => ?_⟩
  · obtain ⟨transfer, entry⟩ := genArrival_spec f b (findPeer s.view.peers f.source)
    have arrived : arrive f first (endReception 0 s) = arriveGen f b (endReception 0 s) := by
      rw [arrive, if_pos own_period, hb]
    obtain ⟨hfound, hothers⟩ := findPeer_enterPeer (genArrival f b (findPeer s.view.peers f.source)) (endReception 0 s)
      (arriveGen f b (endReception 0 s)) (follows_deriveIf _ _).peers
    rw [entry] at hfound hothers
    refine ⟨_, _, by rw [arrives, arrived], hfound, rfl, rfl, rfl, rfl, rfl, rfl, rfl, rfl, hothers, fun hold => ?_⟩
    have stands : arriveGen f b (endReception 0 s) =
        enterPeer (genArrival f b (findPeer s.view.peers f.source)) (endReception 0 s) := by
      have no_feeder := wasFeeder_eq_false _ hold
      simp [arriveGen, deriveIf, no_feeder]
    rw [stands]
    exact ⟨rfl, rfl, by simp [Kept]⟩
  · obtain ⟨tripped, transfer, heard, entry⟩ := feedArrival_spec f b (findPeer s.view.peers f.source)
    have arrived : arrive f first (endReception 0 s) = arriveFeed f b (endReception 0 s) := by
      rw [arrive, if_pos own_period, hb]
    obtain ⟨hfound, hothers⟩ := findPeer_enterPeer (feedArrival f b (findPeer s.view.peers f.source)) (endReception 0 s)
      (arriveFeed f b (endReception 0 s)) (follows_deriveTieNow _).peers
    rw [entry] at hfound hothers
    exact ⟨_, _, by rw [arrives, arrived], hfound, rfl, rfl, rfl, rfl, rfl, rfl, deriveTieNow_holds _, hothers⟩

/-! ### Frames of a differing share period (R39) -/

/-- The state before the tie state is derived: the entry in the table, and LINK raised where it is newly INCOMPATIBLE (R39). -/
def incompatibleEntered (f : Frame) (old : Option PeerEntry) (s : State) : State :=
  raiseIf (newlyIncompatible old) .link (enterPeer (incompatibleEntry f old) s)

theorem arriveIncompatible_eq (f : Frame) (old : Option PeerEntry) (s : State) (h : findPeer s.view.peers f.source = old) :
    arriveIncompatible f s = deriveIf (wasFeeder old) (incompatibleEntered f old s) := by
  subst h
  rfl

/-- Before the derivation only the table and LINK have changed (R39). -/
theorem incompatibleEntered_kept (f : Frame) (old : Option PeerEntry) (s : State) :
    (incompatibleEntered f old s).view = (enterPeer (incompatibleEntry f old) s).view ∧
    (incompatibleEntered f old s).link = s.link ∧ Kept [.view, .port] s (incompatibleEntered f old s) := by
  refine ⟨by simp [incompatibleEntered], by simp [incompatibleEntered], ?_⟩
  simp [Kept, incompatibleEntered]

/-- LINK is raised exactly where the entry was not INCOMPATIBLE already (R39). -/
theorem incompatibleEntered_raisedOnly (f : Frame) (old : Option PeerEntry) (s : State) :
    RaisedOnly (if newlyIncompatible old then [.link] else []) s (incompatibleEntered f old s) := by
  unfold incompatibleEntered
  cases newlyIncompatible old <;> simp [RaisedOnly, raiseIf]

/-- No INCOMPATIBLE entry at an address: LINK is due at a frame of a differing period (R39). -/
theorem newlyIncompatible_eq_true (old : Option PeerEntry) (h : ∀ e, old = some e → e.state ≠ .incompatible) :
    newlyIncompatible old = true := by
  cases old with
  | none => rfl
  | some e => exact decide_eq_true (h e rfl)

/-- Settles O42: the entry is put into the table and LINK raised, and a derivation that finds the tie state as it was is none. -/
theorem otherPeriodMakesIncompatible : Obligations.OtherPeriodMakesIncompatible := by
  unfold Obligations.OtherPeriodMakesIncompatible
  intro f first s hf hne hp ha hr hfl _
  generalize hold : findPeer s.view.peers f.source = old
  have arrived : arrive f first (endReception 0 s) =
      deriveIf (wasFeeder old) (incompatibleEntered f old (endReception 0 s)) := by
    rw [arrive, if_neg (by exact hp), arriveIncompatible_eq f old (endReception 0 s) hold]
  obtain ⟨hview, hlink, hkept⟩ := incompatibleEntered_kept f old (endReception 0 s)
  have hraised : RaisedOnly (if newlyIncompatible old then [.link] else []) s
      (incompatibleEntered f old (endReception 0 s)) := incompatibleEntered_raisedOnly f old (endReception 0 s)
  have follows := follows_deriveIf (wasFeeder old) (incompatibleEntered f old (endReception 0 s))
  obtain ⟨hfound, hothers⟩ := findPeer_enterPeer (incompatibleEntry f old) (endReception 0 s) _
    (follows.peers.trans (congrArg View.peers hview))
  refine ⟨_, _, by rw [exec_frameReceived_arrives f first s hf ha hr hfl hne, arrived], hfound, rfl, rfl, rfl, rfl, rfl, rfl,
    rfl, rfl, rfl, fun b hb => ?_, fun b hb => ?_, fun r p hb => ?_, fun c x hb => ?_, hothers, fun hnew => ?_, ?_, ?_, ?_,
    fun hnf => ?_, fun hfeeder => ?_, fun hsame => ?_⟩
  · simp [incompatibleEntry, hb, incompatibleRole]
  · simp [incompatibleEntry, hb, incompatibleRole]
  · simp [incompatibleEntry, hb, incompatibleRole]
  · cases old <;> simp [incompatibleEntry, hb, incompatibleRole]
  · refine follows.flags _ ?_
    simp [incompatibleEntered, newlyIncompatible_eq_true old hnew]
  · simp [incompatibleEntered]
  · simp [incompatibleEntered]
  · simp [incompatibleEntered]
  · rw [wasFeeder_eq_false old hnf, deriveIf, if_neg (by decide), hview]
    rfl
  · obtain ⟨e, he, hrole⟩ := hfeeder
    have feeder : wasFeeder old = true := by rw [he]; exact decide_eq_true hrole
    rw [feeder]
    exact deriveTieNow_holds _
  · have entered := deriveIf_of_same (wasFeeder old) (incompatibleEntered f old (endReception 0 s))
      (hsame.trans (congrArg View.tieClosed hview).symm)
    rw [entered]
    refine ⟨hlink, by rw [hview]; rfl, by rw [hview]; rfl, ?_, ?_⟩
    · cases old with
      | none => exact hraised
      | some e => by_cases he : e.state = .incompatible <;> simpa [newlyIncompatible, he] using hraised
    · simp [Kept, incompatibleEntered]

/-! ### TRIP ALERTs (R40, R52) -/

/-- The entry that a TRIP ALERT gives, whatever stood at its address (R40). -/
theorem tripArrival_spec (f : Frame) (ratedKw p : Int) (old : Option PeerEntry) :
    ∃ body heard, tripArrival f ratedKw p old =
      { address := f.source, role := .genset, sect := f.sect, period := f.period, state := .fresh, age := 0,
        body := body, tripped := true, transfer := some p, heard := heard } := by
  unfold tripArrival
  cases old with
  | none => exact ⟨_, _, rfl⟩
  | some e => dsimp only; split <;> exact ⟨_, _, rfl⟩

/-- The clearing of heard-since-alert leaves every address in its place and the source's entry as it is (R40). -/
theorem findPeer_clearHeard (source : Address) (peers : List PeerEntry) :
    findPeer (clearHeard source peers) source = findPeer peers source := by
  induction peers with
  | nil => rfl
  | cons x rest ih =>
    unfold findPeer clearHeard at ih ⊢
    by_cases hx : x.address = source
    · simp [hx]
    · by_cases hr : x.role = .genset <;> simpa [hx, hr] using ih

/-- Heard-since-alert stands clear on every other GENSET entry (R40). -/
theorem heard_of_mem_clearHeard (source : Address) (peers : List PeerEntry) (e : PeerEntry)
    (h : e ∈ clearHeard source peers) (ha : e.address ≠ source) (hr : e.role = .genset) : e.heard = false := by
  obtain ⟨x, -, hx⟩ := List.mem_map.1 h
  by_cases hc : x.role = .genset ∧ x.address ≠ source
  · rw [if_pos hc] at hx
    rw [← hx]
  · rw [if_neg hc] at hx
    exact absurd ⟨hx ▸ hr, hx ▸ ha⟩ hc

/-- The set is on the bus in `t` as in `s`, and all else that the own load row is read from stands (R46). -/
structure LoadKept (s t : State) : Prop where
  straps : t.ctl.straps = s.ctl.straps
  intake : t.intake = s.intake
  onBus : t.ls.unit.onBus = s.ls.unit.onBus

theorem LoadKept.refl (s : State) : LoadKept s s := ⟨rfl, rfl, rfl⟩

theorem LoadKept.trans {s t u : State} (h : LoadKept s t) (k : LoadKept t u) : LoadKept s u :=
  ⟨k.straps.trans h.straps, k.intake.trans h.intake, k.onBus.trans h.onBus⟩

theorem LoadKept.of_eq {s t : State} (hctl : t.ctl = s.ctl) (hintake : t.intake = s.intake) (hls : t.ls = s.ls) :
    LoadKept s t :=
  ⟨by rw [hctl], hintake, by rw [hls]⟩

theorem LoadKept.ite {s t : State} {c : Prop} [Decidable c] (h : c → LoadKept s t) : LoadKept s (if c then t else s) := by
  split
  · next hc => exact h hc
  · exact .refl s

/-- A ramp-out abandoned leaves the set on the bus (R78). -/
theorem loadKept_abandonRampOut (s : State) : LoadKept s (abandonRampOut s) := by
  refine ⟨by simp, by simp, ?_⟩
  rw [abandonRampOut_unit]
  split
  · next h => rw [h]; rfl
  · rfl

theorem loadKept_increaseCut (cut : Nat) (cause : Option ShedCause) (s : State) :
    LoadKept s (increaseCut cut cause s) := by
  have offered : LoadKept s (offerTrigger .shedStep (raise .shedStep (s.setShed (s.shedRaised cut)))) :=
    .of_eq (by simp) (by simp) (by simp)
  have abandoned (t : State) (h : LoadKept s t) : LoadKept s (if t.isGenset then abandonRampOut t else t) :=
    h.trans (.ite fun _ => loadKept_abandonRampOut t)
  cases cause with
  | none => exact abandoned _ offered
  | some c => exact (abandoned _ offered).trans (.of_eq (queueAlert_ctl _ _) (queueAlert_intake _ _) (queueAlert_ls _ _))

theorem loadKept_evaluateInRun (s : State) : LoadKept s (evaluateInRun s) :=
  .ite fun _ => .ite fun _ => loadKept_increaseCut _ _ s

theorem loadKept_deficitAbandons (s : State) : LoadKept s (deficitAbandons s) := .ite fun _ => loadKept_abandonRampOut s

/-- The own load row is read from the role, the unit on the bus or not, and the P mean (R46). -/
theorem LoadKept.ownLoad {s t : State} (h : LoadKept s t) : t.ownLoad = s.ownLoad := by
  unfold State.ownLoad State.isGenset
  rw [h.straps, h.intake, h.onBus]

/-- The island's genset entries are read from the peer table, the tie state and the own section (R45). -/
theorem islandSets_congr {s t : State} (hstraps : t.ctl.straps = s.ctl.straps) (hpeers : t.view.peers = s.view.peers)
    (htie : t.view.tieClosed = s.view.tieClosed) : t.islandSets = s.islandSets := by
  simp only [State.islandSets, State.inIsland, hstraps, hpeers, htie]

/-- The sums held are those of the state: L by the rows of R46 and the transfers, D by L and C (R46 to R49). -/
def SumsStand (s : State) : Prop :=
  s.view.sums.d = s.view.sums.l - s.view.sums.c ∧
  s.view.sums.l = s.ownLoad + total ((s.islandSets.filterMap PeerEntry.contribution).map Prod.fst) + s.transfers

theorem sumsStand_formSums (s : State) : SumsStand (formSums s) := ⟨rfl, rfl⟩

theorem SumsStand.of_kept {s t : State} (h : SumsStand s) (hload : LoadKept s t) (hview : t.view = s.view) :
    SumsStand t := by
  have sets : t.islandSets = s.islandSets := islandSets_congr hload.straps (by rw [hview]) (by rw [hview])
  unfold SumsStand State.transfers
  rw [hview, hload.ownLoad, sets]
  exact h

/-- What a TRIP ALERT has brought about in the island view: the entry in the table, the heard marks and the own mark clear, the
sums formed (R40, R52). -/
def TripTaken (f : Frame) (p : Int) (t : State) : Prop :=
  (∃ e, findPeer t.view.peers f.source = some e ∧ e.role = .genset ∧ e.state = .fresh ∧ e.age = 0 ∧ e.sect = f.sect ∧
    e.tripped = true ∧ e.transfer = some p) ∧
  (∀ e ∈ t.view.peers, e.address ≠ f.source → e.role = .genset → e.heard = false) ∧
  t.view.ownReported = false ∧ SumsStand t

theorem TripTaken.of_kept {f : Frame} {p : Int} {s t : State} (h : TripTaken f p s) (hload : LoadKept s t)
    (hview : t.view = s.view) : TripTaken f p t := by
  obtain ⟨hentry, hheard, hown, hsums⟩ := h
  unfold TripTaken
  rw [hview]
  exact ⟨hentry, hheard, hown, hsums.of_kept hload hview⟩

/-- The immediate sums leave table and own mark, and stand for the state they leave (R52). -/
theorem immediateSums_view (s : State) :
    (immediateSums s).view.peers = s.view.peers ∧ (immediateSums s).view.ownReported = s.view.ownReported ∧
    SumsStand (immediateSums s) := by
  have view : (immediateSums s).view = (formSums s).view := by simp [immediateSums]
  refine ⟨by rw [view]; rfl, by rw [view]; rfl, (sumsStand_formSums s).of_kept ?_ view⟩
  exact (loadKept_deficitAbandons _).trans (loadKept_evaluateInRun _)

/-- The island view's part of a TRIP ALERT (R40, R44, R52). -/
theorem tripSums_taken (f : Frame) (ratedKw p : Int) (s : State) : TripTaken f p (tripSums f ratedKw p s) := by
  obtain ⟨body, heard, entry⟩ := tripArrival_spec f ratedKw p (findPeer s.view.peers f.source)
  obtain ⟨hpeers, hown, hsums⟩ :=
    immediateSums_view (deriveIf (wasFeeder (findPeer s.view.peers f.source)) (tripView f ratedKw p s))
  have peers : (tripSums f ratedKw p s).view.peers =
      clearHeard f.source (putPeer (tripArrival f ratedKw p (findPeer s.view.peers f.source)) s.view.peers) :=
    hpeers.trans (follows_deriveIf _ _).peers
  rw [entry] at peers
  have found := findPeer_putPeer_same (tripArrival f ratedKw p (findPeer s.view.peers f.source)) s.view.peers
  rw [entry, ← findPeer_clearHeard, ← peers] at found
  refine ⟨⟨_, found, rfl, rfl, rfl, rfl, rfl, rfl⟩, fun e he ha hr => ?_, hown.trans (deriveIf_ownReported _ _), hsums⟩
  rw [peers] at he
  exact heard_of_mem_clearHeard _ _ e he ha hr

theorem flagsKept_tripSums (f : Frame) (ratedKw p : Int) (s : State) : FlagsKept s (tripSums f ratedKw p s) := by
  have viewed : FlagsKept s (tripView f ratedKw p s) := .of_port rfl
  have derived := viewed.trans (follows_deriveIf (wasFeeder (findPeer s.view.peers f.source)) _).flags
  have formed := derived.trans (FlagsKept.of_port (t := formSums _) (formSums_port _))
  exact formed.trans ((follows_deficitAbandons _).flags.trans (follows_evaluateInRun _).flags)

/-- A TRIP ALERT is taken with TRIP-HEARD raised, the trigger offered before or after (R34, R40, R134). -/
theorem arriveTrip_taken (f : Frame) (ratedKw p : Int) (first : Bool) (s : State) :
    TripTaken f p (arriveTrip f ratedKw p first s) ∧ flagOf (arriveTrip f ratedKw p first s) .tripHeard = true := by
  have raised : flagOf (raise .tripHeard s) .tripHeard = true := by simp
  cases first with
  | true =>
    exact ⟨tripSums_taken f ratedKw p _,
      flagsKept_tripSums f ratedKw p _ _ ((follows_offerTrigger .tripHeard _).flags _ raised)⟩
  | false =>
    refine ⟨(tripSums_taken f ratedKw p (raise .tripHeard s)).of_kept (.of_eq ?_ ?_ ?_) ?_,
      (follows_offerTrigger .tripHeard _).flags _ (flagsKept_tripSums f ratedKw p _ _ raised)⟩ <;> simp [arriveTrip]

/-- Settles O43. -/
theorem tripAlertIsTaken : Obligations.TripAlertIsTaken := by
  unfold Obligations.TripAlertIsTaken
  intro f first ratedKw p s hf hb hne hp ha hr hfl _
  have arrived : arrive f first (endReception 0 s) = arriveTrip f ratedKw p first (endReception 0 s) := by
    rw [arrive, if_pos (by exact hp), hb]
  obtain ⟨⟨⟨e, hentry⟩, hheard, hown, hd, hl⟩, hflag⟩ := arriveTrip_taken f ratedKw p first (endReception 0 s)
  obtain ⟨hfound, hrole, hstate, hage, hsect, htripped, htransfer⟩ := hentry
  exact ⟨_, e, by rw [exec_frameReceived_arrives f first s hf ha hr hfl hne, arrived], hflag, hfound, hrole, hstate, hage,
    hsect, htripped, htransfer, hheard, hown, hd, hl⟩

/-! ### Adoption (R114, R115) -/

/-- An adopted cut rank queues no alert (R104, R115). -/
theorem increaseCut_none_link (cut : Nat) (s : State) : (increaseCut cut none s).link = s.link := by
  simp only [increaseCut]
  split <;> simp

theorem adopt_link (cut : Nat) (inIsland : Bool) (s : State) : (adopt cut inIsland s).link = s.link := by
  unfold adopt
  split
  · exact increaseCut_none_link cut s
  · rfl

/-- The cut rank is adopted where the station works, the sender is of the island and its rank is higher (R114). -/
theorem arriveShed_adopts (f : Frame) (cut : Nat) (s : State) (hw : s.ctl.station.working = true)
    (hi : s.inIsland f.sect = true) (hc : s.shed.cut < cut) :
    arriveShed f cut s = increaseCut cut none (s.setView { s.view with peers := shedArrival f s.view.peers }) :=
  if_pos ⟨hw, hi, hc⟩

/-- Any other SHED ALERT refreshes its entry and does no more (R40, R114). -/
theorem arriveShed_refreshes (f : Frame) (cut : Nat) (s : State)
    (h : s.ctl.station.working = false ∨ s.inIsland f.sect = false ∨ cut ≤ s.shed.cut) :
    arriveShed f cut s = s.setView { s.view with peers := shedArrival f s.view.peers } := by
  refine if_neg fun ⟨hw, hi, hc⟩ => ?_
  rcases h with h | h | h
  · exact absurd (hw.symm.trans h) (by decide)
  · exact absurd (hi.symm.trans h) (by decide)
  · exact absurd hc (Nat.not_lt.2 h)

/-- SHED-STEP stands raised after an increase of the cut rank (R104). -/
theorem flagOf_increaseCut_none (cut : Nat) (s : State) : flagOf (increaseCut cut none s) .shedStep = true := by
  have raised : flagOf (raise .shedStep (s.setShed (s.shedRaised cut))) .shedStep = true := by simp
  exact (follows_abandonIf _ _).flags _ ((follows_offerTrigger .shedStep _).flags _ raised)

/-- A rise of the cut rank asserts the output of each present group whose rank it crosses (R98, R99). -/
theorem groupsAtCut_output (s : State) (cut : Nat) (g : GroupNo) (hp : s.groupPresent g = true)
    (hs : s.shed.groups[g].state ≠ .absent) (hlt : s.shed.cut < s.ctl.cfg.rank[g]) (hle : s.ctl.cfg.rank[g] ≤ cut) :
    (s.groupsAtCut cut)[g].output = true := by
  have ranked : 1 ≤ s.ctl.cfg.rank[g] := by omega
  have after : s.outputAt cut g = true := by
    rw [State.outputAt, hp, decide_eq_true ranked, decide_eq_true hle]; rfl
  have before : s.outputAt s.shed.cut g = false := by
    rw [State.outputAt, decide_eq_false (Nat.not_le.2 hlt), Bool.and_false]
  have crossed : (s.groupsAtCut cut)[g] = s.shed.groups[g].assertOutput := by
    simp [State.groupsAtCut, after, before]
  rw [crossed]
  exact Group.assertOutput_output _ hs

/-- Settles O44: an adoption is an increase of the cut rank without a cause; any other SHED ALERT only refreshes its entry. -/
theorem shedAlertIsAdopted : Obligations.ShedAlertIsAdopted := by
  unfold Obligations.ShedAlertIsAdopted
  intro f first cut cause s hf hb hne hp ha hr hfl
  have arrived : arrive f first (endReception 0 s) = arriveShed f cut (endReception 0 s) := by
    rw [arrive, if_pos (by exact hp), hb]
  refine ⟨_, by rw [exec_frameReceived_arrives f first s hf ha hr hfl hne, arrived], ?_, fun hw hi hc => ?_, fun hnot => ?_⟩
  · have link : (arriveShed f cut (endReception 0 s)).link = (endReception 0 s).link := adopt_link cut _ _
    rw [link]
    rfl
  · rw [arriveShed_adopts f cut (endReception 0 s) hw hi hc, increaseCut_shed]
    exact ⟨rfl, rfl, rfl, flagOf_increaseCut_none cut _, fun g hp hs hlt hle => groupsAtCut_output _ cut g hp hs hlt hle⟩
  · rw [arriveShed_refreshes f cut (endReception 0 s) hnot]
    simp [Kept]

end Machine
end Sys2Proof

/-! Proofs. The share-timer expiries that enter RUN (R24, R57, R147, R149): what the blocks' work after the test point leaves of what
the state tests have brought about, in whatever order it is taken. -/

namespace Sys2Proof
namespace Machine

open Safety

/-! ### What the work after the test point leaves (R144) -/

/-- No flag has cleared, and the set is on the bus in `t` as in `s`. -/
structure Worked (s t : State) : Prop where
  flags : FlagsKept s t
  onBus : t.ls.unit.onBus = s.ls.unit.onBus

theorem Worked.refl (s : State) : Worked s s := ⟨.refl s, rfl⟩

theorem Worked.trans {s t u : State} (h : Worked s t) (k : Worked t u) : Worked s u :=
  ⟨h.flags.trans k.flags, k.onBus.trans h.onBus⟩

theorem Worked.of_eq {s t : State} (hport : t.port = s.port) (hls : t.ls = s.ls) : Worked s t :=
  ⟨.of_port hport, by rw [hls]⟩

theorem Worked.ite {s t : State} {c : Prop} [Decidable c] (h : c → Worked s t) : Worked s (if c then t else s) := by
  split
  · next hc => exact h hc
  · exact .refl s

theorem worked_setLs (l : LoadShare) (s : State) (h : l.unit.onBus = s.ls.unit.onBus) : Worked s (s.setLs l) :=
  ⟨flagsKept_setLs l s, h⟩

theorem worked_raise (f : ChangeFlag) (s : State) : Worked s (raise f s) := ⟨flagsKept_raise f s, rfl⟩

theorem worked_abandonRampOut (s : State) : Worked s (abandonRampOut s) :=
  ⟨(follows_abandonRampOut s).flags, (loadKept_abandonRampOut s).onBus⟩

theorem worked_evaluateCapacity (s : State) : Worked s (evaluateCapacity s) :=
  .ite fun h => ⟨(follows_increaseCut _ _ s (ruleRank_bounds s h.2).1 (ruleRank_bounds s h.2).2).flags,
    (loadKept_increaseCut _ _ s).onBus⟩

theorem worked_ladderTest (s : State) : Worked s (ladderTest s) :=
  ⟨(follows_ladderTest s).flags, (LoadKept.ite fun _ => loadKept_increaseCut _ _ s).onBus⟩

/-- BIAS-VALID following its conditions takes no set off the bus (R64, R78). -/
theorem worked_refreshBias (s : State) : Worked s (refreshBias s) := by
  refine ⟨flagsKept_refreshBias s, ?_⟩
  unfold refreshBias
  split
  · exact (loadKept_abandonRampOut _).onBus
  · rfl

theorem worked_sendActuator (s : State) : Worked s (sendActuator s) := by
  refine ⟨flagsKept_sendActuator s, ?_⟩
  unfold sendActuator
  split <;> rfl

/-! ### The load-share unit's steps (R68) -/

theorem worked_lsRamp (fresh : Bool) (s : State) : Worked s (lsRamp fresh s) := by
  unfold lsRamp
  split
  · exact worked_setLs _ s rfl
  · split
    · exact worked_setLs _ s rfl
    · split
      · exact .refl s
      · exact worked_setLs _ s rfl
  all_goals exact .refl s

theorem worked_lsBias (s : State) : Worked s (lsBias s) := .ite fun _ => worked_setLs _ s rfl

theorem worked_lsComplete (s : State) : Worked s (lsComplete s) :=
  .ite fun h => (worked_setLs _ s (by rw [h.1]; rfl)).trans (worked_raise .unit _)

theorem worked_lsTrip (s : State) : Worked s (lsTrip s) := .ite fun _ => worked_setLs _ s rfl

theorem worked_loadShareWork (fresh : Bool) (s : State) : Worked s (loadShareWork fresh s) := by
  have abandoned : Worked s (lsAbandon s) := .ite fun _ => worked_abandonRampOut s
  unfold loadShareWork
  split
  · split
    · exact abandoned.trans ((worked_lsRamp fresh _).trans ((worked_lsBias _).trans ((worked_lsComplete _).trans
        ((worked_lsTrip _).trans (worked_sendActuator _)))))
    · exact worked_sendActuator s
  · exact .refl s

/-! ### Generation on demand (R85 to R94) -/

theorem worked_failAttempt (s : State) : Worked s (failAttempt s) := by
  have failed : Worked s (raise .startFail (s.setDemand { s.demand.endAttempt with lockout := true })) :=
    .trans (.of_eq (State.setDemand_port s _) (State.setDemand_ls s _)) (worked_raise .startFail _)
  refine failed.trans (.ite fun h => ?_)
  exact (worked_setLs _ _ (by rw [h]; rfl)).trans (worked_raise .unit _)

theorem worked_attemptWork (s : State) : Worked s (attemptWork s) := by
  unfold attemptWork
  split
  · exact worked_failAttempt s
  · exact .of_eq rfl rfl

theorem worked_startRequest (s : State) : Worked s (startRequest s) := by
  refine .ite fun h => ?_
  have starting : Worked s ((s.setLs { s.ls with unit := .starting }).setDemand
      { s.demand with start := true, attempt := some 0 }) := ⟨.of_port rfl, by rw [h.1]; rfl⟩
  exact starting.trans (worked_raise .unit _)

theorem worked_startDecision (s : State) : Worked s (startDecision s) := by
  have counted : Worked s (s.setDemand { s.demand with startNeed := s.nextStartNeed }) := .of_eq rfl rfl
  exact counted.trans (.ite fun _ => worked_startRequest _)

theorem worked_rampOutRequest (s : State) : Worked s (rampOutRequest s) := by
  refine .ite fun h => ?_
  have online : s.ls.unit = .online := by
    simp only [State.rampOutTaken, Bool.and_eq_true, decide_eq_true_eq] at h
    exact h.1
  exact (worked_setLs _ s (by rw [online]; rfl)).trans (worked_raise .unit _)

theorem worked_stopWork (s : State) : Worked s (stopWork s) := by
  unfold stopWork
  split
  · exact .trans (.of_eq (State.setDemand_port s _) (State.setDemand_ls s _)) (worked_rampOutRequest _)
  · exact .of_eq rfl rfl

theorem worked_beforeStop (s : State) : Worked s (beforeStop s) := by
  unfold beforeStop
  split
  · exact (worked_attemptWork s).trans (worked_startDecision _)
  · exact worked_attemptWork s

theorem worked_demandWork (r : ExpiryRun) : Worked r.state (demandWork r).state := by
  have before := worked_beforeStop r.state
  simp only [demandWork]
  split
  · split
    · exact before.trans (worked_stopWork _)
    · exact before
  · exact .refl _

/-! ### The shed unit (R105 to R119) -/

theorem worked_capacityWork (tieChange : Bool) (s : State) : Worked s (capacityWork tieChange s) := by
  have zeroed : Worked s (if tieChange then zeroRestore s else s) := .ite fun _ => .of_eq rfl rfl
  exact zeroed.trans (.ite fun _ => worked_evaluateCapacity _)

theorem worked_ladderWork (s : State) : Worked s (ladderWork s) := by
  unfold ladderWork
  split
  · exact .refl s
  · split
    · exact .refl s
    · split
      · exact .of_eq rfl rfl
      · split
        · exact .trans (.of_eq (State.setShed_port s _) (State.setShed_ls s _)) (worked_ladderTest _)
        · exact .of_eq rfl rfl

theorem worked_restoreWork (s : State) : Worked s (restoreWork s) := by
  unfold restoreWork
  split
  · split
    · exact .trans (.of_eq (State.setShed_port s _) (State.setShed_ls s _)) (worked_raise .restoreStep _)
    · exact .of_eq rfl rfl
  · exact .refl s

theorem worked_shedWork (tieChange : Bool) (r : ExpiryRun) : Worked r.state (shedWork tieChange r).state := by
  have counted : Worked r.state (countSettle (rememberLoads r.state)) := .of_eq (by simp) (by simp)
  exact counted.trans ((worked_capacityWork tieChange _).trans ((worked_ladderWork _).trans (worked_restoreWork _)))

/-! ### Every block's work, and the whole expiry (R144) -/

theorem worked_expiryPart (tieChange : Bool) (part : ExpiryPart) (r : ExpiryRun) :
    Worked r.state (expiryPart tieChange part r).state := by
  cases part with
  | loadShare => exact worked_loadShareWork _ r.state
  | demand => exact worked_demandWork r
  | shed => exact worked_shedWork tieChange r
  | link => exact .ite fun _ => .of_eq rfl rfl

/-- What an expiry has noted stays noted. -/
theorem ExpiryRun.mem_note (r : ExpiryRun) (s : State) (cond : Bool) (e e' : ExpiryEvent) (h : e ∈ r.events) :
    e ∈ (r.note s cond e').events := by
  cases cond
  · exact h
  · exact List.mem_append_left _ h

theorem mem_events_expiryPart (tieChange : Bool) (part : ExpiryPart) (r : ExpiryRun) (e : ExpiryEvent) (h : e ∈ r.events) :
    e ∈ (expiryPart tieChange part r).events := by
  cases part with
  | loadShare => exact h
  | link => exact h
  | shed => exact ExpiryRun.mem_note _ _ _ _ _ (ExpiryRun.mem_note _ _ _ _ _ (ExpiryRun.mem_note _ _ _ _ _ h))
  | demand =>
    simp only [expiryPart, demandWork]
    split
    · split
      · exact ExpiryRun.mem_note _ _ _ _ _ (ExpiryRun.mem_note _ _ _ _ _ (ExpiryRun.mem_note _ _ _ _ _ h))
      · exact ExpiryRun.mem_note _ _ _ _ _ h
    · exact h

/-- The transmitter's frame, error count and last outcome are the same in `t` as in `s`. -/
def OutcomeKept (s t : State) : Prop :=
  t.link.flight = s.link.flight ∧ t.link.errors = s.link.errors ∧ t.link.outcome = s.link.outcome

theorem outcomeKept_expiryPart (tieChange : Bool) (part : ExpiryPart) (r : ExpiryRun) :
    OutcomeKept r.state (expiryPart tieChange part r).state := by
  by_cases hp : part = .link
  · rw [hp]
    show OutcomeKept r.state (linkWork r.state)
    unfold linkWork
    split <;> exact ⟨rfl, rfl, rfl⟩
  · have queued := (queues_expiryPart tieChange part r hp).link
    unfold OutcomeKept
    rw [queued]
    exact ⟨rfl, rfl, rfl⟩

section Expiry

variable (order : List ExpiryPart) (s : State)

/-- What the state tests bring about stands at the end of the expiry: their events, station control, the flags, the set on the bus,
the frame in flight with its outcome. -/
theorem expiryRun_afterTests (tested : ExpiryRun) (h : testPoint { state := atTestPoint s, events := [] } = tested) :
    (∀ e ∈ tested.events, e ∈ (expiryRun order s).events) ∧ (expiryRun order s).state.ctl = tested.state.ctl ∧
    Worked tested.state (expiryRun order s).state ∧ OutcomeKept tested.state (expiryRun order s).state := by
  unfold expiryRun
  rw [h]
  refine foldl_keeps _ (fun r : ExpiryRun => (∀ e ∈ tested.events, e ∈ r.events) ∧ r.state.ctl = tested.state.ctl ∧
    Worked tested.state r.state ∧ OutcomeKept tested.state r.state) (fun r part hr => ?_) _ _
    ⟨fun _ he => he, rfl, .refl _, rfl, rfl, rfl⟩
  obtain ⟨hevents, hctl, hworked, hflight, herrors, houtcome⟩ := hr
  obtain ⟨kflight, kerrors, koutcome⟩ := outcomeKept_expiryPart (s.tieChangesTo (atTestPoint s)) part r
  exact ⟨fun e he => mem_events_expiryPart _ part r e (hevents e he), (expiryPart_ctl _ part r).trans hctl,
    hworked.trans (worked_expiryPart _ part r), kflight.trans hflight, kerrors.trans herrors, koutcome.trans houtcome⟩

/-- An expiry that the state tests leave in RUN or FALLBACK ends with a state frame pending, in every order (R24). -/
theorem expiryRun_statePending
    (ht : (testPoint { state := atTestPoint s, events := [] }).state.ctl.station.transmits = true) :
    (expiryRun order s).state.link.statePending = true := by
  refine foldl_wholeOrder _ ExpiryPart.all order .link (by decide) (by decide)
    (fun r : ExpiryRun => r.state.ctl.station.transmits = true) (fun r => r.state.link.statePending = true)
    (fun r part _ hr => by rw [expiryPart_ctl]; exact hr) (fun r hr => ?_) (fun r part hp hr => ?_) _ ht
  · have requested : linkWork r.state = r.state.setLink { r.state.link with statePending := true } := if_pos hr
    show (linkWork r.state).link.statePending = true
    rw [requested]
    rfl
  · rw [(queues_expiryPart _ part r hp).link]
    exact hr

/-- A named expiry whose count ends is the whole expiry (log entry 5). -/
theorem namedExpiry_of_event (e : ExpiryEvent) (ha : s.ctl.station.active = true) (he : e ∈ (expiryRun order s).events) :
    namedExpiry e order s = (expiryRun order s).state := if_pos ⟨ha, he⟩

end Expiry

/-! ### The end of LISTEN (R24, R57, R147) -/

/-- RUN is entered with the LISTEN counter at 0 (R147). -/
theorem enterRun_ctl (s : State) : (enterRun s).ctl = { s.ctl with station := .run, listenCount := 0 } := by
  simp [enterRun]

/-- A set found on the bus at the entry to RUN is taken up, with UNIT raised (R57). -/
theorem enterRun_takesUp (s : State) (hg : s.isGenset = true) (hu : s.ls.unit = .offline)
    (hb : s.intake.setBreaker.settled = .closed) :
    (enterRun s).ls.unit.onBus = true ∧ flagOf (enterRun s) .unit = true := by
  have taken (t : State) (ht : t.isGenset = true ∧ t.ls.unit = .offline ∧ t.intake.setBreaker.settled = .closed) :
      (takeUpSet t).ls.unit.onBus = true ∧ flagOf (takeUpSet t) .unit = true := by
    rw [takeUpSet, if_pos ht]
    simp [LoadShare.ontoBus, UnitState.onBus]
  obtain ⟨hbus, hflag⟩ := taken ((s.setCtl { s.ctl with station := .run, listenCount := 0 }).setLink s.link.silenced)
    ⟨hg, hu, hb⟩
  exact ⟨(worked_refreshBias _).onBus.trans hbus, flagsKept_refreshBias _ _ hflag⟩

/-- The state tests at the eighth expiry in LISTEN enter RUN (R147). -/
theorem testPoint_listen (s : State) (hs : s.ctl.station = .listen) (hc : 7 ≤ s.ctl.listenCount) :
    testPoint { state := s, events := [] } = { state := enterRun s, events := [.listenEnd] } := by
  simp [testPoint, hs, show 8 ≤ s.ctl.listenCount + 1 by omega, ExpiryRun.note]

/-- LISTEN ends at its eighth expiry. -/
theorem listenEnd_entersRun (order : List ExpiryPart) (s : State) (hs : s.ctl.station = .listen)
    (hc : 7 ≤ s.ctl.listenCount) :
    ∃ t, exec (.listenEnd order) s = .next t ∧ t.ctl.station = .run ∧ t.ctl.listenCount = 0 ∧
      t.link.statePending = true ∧ t.link.flight = none ∧ t.link.errors = 0 ∧ t.link.outcome = .none ∧
      (s.isGenset = true → s.ls.unit = .offline → s.intake.setBreaker.settled = .closed →
        t.ls.unit.onBus = true ∧ flagOf t .unit = true) := by
  obtain ⟨hstation, hstraps, hcount, -⟩ := atTestPoint_control s
  have tested := testPoint_listen (atTestPoint s) (hstation.trans hs) (by rw [hcount]; exact hc)
  obtain ⟨hevents, hctl, hworked, hflight, herrors, houtcome⟩ := expiryRun_afterTests order s _ tested
  rw [enterRun_ctl] at hctl
  rw [enterRun_link] at hflight herrors houtcome
  have answered : exec (.listenEnd order) s = .next (expiryRun order s).state :=
    congrArg Host.Outcome.next (namedExpiry_of_event order s .listenEnd (by rw [hs]; rfl) (hevents _ (by simp)))
  have pending := expiryRun_statePending order s (by rw [tested, enterRun_ctl]; rfl)
  refine ⟨_, answered, by rw [hctl], by rw [hctl], pending, hflight, herrors, houtcome, fun hg hu hb => ?_⟩
  obtain ⟨hbus, hflag⟩ := enterRun_takesUp (atTestPoint s) (by rw [State.isGenset, hstraps]; exact hg) (by simpa using hu)
    (by simpa [atTestPoint, closePeriod] using hb)
  exact ⟨hworked.onBus.trans hbus, hworked.flags _ hflag⟩

/-! ### The exit from FALLBACK (R149) -/

/-- The peer table at the test point: aged, and its transfers dropped or not (R41, R48). -/
theorem atTestPoint_peers (s : State) :
    (atTestPoint s).view.peers = agePeers s.view.peers ∨
    (atTestPoint s).view.peers = dropTransfers (agePeers s.view.peers) := by
  have aged (t : State) (h : t.view.peers = s.view.peers) :
      (viewAtExpiry t).view.peers = agePeers s.view.peers ∨
      (viewAtExpiry t).view.peers = dropTransfers (agePeers s.view.peers) := by
    have before : (viewBeforeSums t).view.peers = agePeers s.view.peers := congrArg agePeers h
    rw [viewAtExpiry, formSums_view, dropTest]
    split
    · exact .inr (congrArg dropTransfers before)
    · exact .inl before
  exact aged _ (by simp)

/-- A table that holds an entry in a state counts it (R53). -/
theorem one_le_countState (st : EntryState) (peers : List PeerEntry) (e : PeerEntry) (he : e ∈ peers) (hs : e.state = st) :
    1 ≤ countState st peers :=
  List.length_pos_of_mem (List.mem_filter.2 ⟨he, decide_eq_true hs⟩)

/-- The dropping of transfers changes no entry's state (R48). -/
theorem countState_dropTransfers (st : EntryState) (peers : List PeerEntry) :
    countState st (dropTransfers peers) = countState st peers := by
  simp [countState, dropTransfers, List.filter_map, Function.comp_def]

/-- An entry that is not INCOMPATIBLE and of age 1 at most is FRESH after its aging (R41). -/
theorem aged_fresh (e : PeerEntry) (hs : e.state ≠ .incompatible) (ha : e.age ≤ 1) :
    e.aged = some { e with age := e.age + 1, state := .fresh } := by
  have young : ageState (e.age + 1) = .fresh := if_pos (by omega)
  have counts : e.age < 255 := by omega
  cases h : e.state with
  | incompatible => exact absurd h hs
  | _ => simp only [PeerEntry.aged, h, if_pos counts, young]

/-- With no peer, or one heard of within the last period or the one before, the table is healthy at the test point (R149). -/
theorem peers_healthy (s : State) (h : s.view.peers = [] ∨ ∃ e ∈ s.view.peers, e.state ≠ .incompatible ∧ e.age ≤ 1) :
    1 ≤ countState .fresh (atTestPoint s).view.peers ∨ (atTestPoint s).view.peers = [] := by
  rcases h with h | ⟨e, he, hs, ha⟩
  · right
    rcases atTestPoint_peers s with hp | hp <;> rw [hp, h] <;> rfl
  · left
    have counted : 1 ≤ countState .fresh (agePeers s.view.peers) :=
      one_le_countState _ _ _ (List.mem_filterMap.2 ⟨e, he, aged_fresh e hs ha⟩) rfl
    rcases atTestPoint_peers s with hp | hp <;> rw [hp]
    · exact counted
    · rw [countState_dropTransfers]; exact counted

/-- The state tests at the fourth healthy expiry in FALLBACK return to RUN (R149). -/
theorem testPoint_fallback (s : State) (hs : s.ctl.station = .fallback) (hc : 3 ≤ s.ctl.fallbackCount)
    (hh : s.linkHealthy = true) :
    testPoint { state := s, events := [] } = { state := returnToRun s, events := [.fallbackExit] } := by
  simp [testPoint, hs, hh, show 4 ≤ s.ctl.fallbackCount + 1 by omega, ExpiryRun.note]

/-- FALLBACK is left at its fourth healthy expiry in a row. -/
theorem fallbackExit_entersRun (order : List ExpiryPart) (s : State) (hs : s.ctl.station = .fallback)
    (hc : 3 ≤ s.ctl.fallbackCount) (ho : s.link.outcome = .success)
    (hp : s.view.peers = [] ∨ ∃ e ∈ s.view.peers, e.state ≠ .incompatible ∧ e.age ≤ 1) :
    ∃ t, exec (.fallbackExit order) s = .next t ∧ t.ctl.station = .run ∧ t.ctl.fallbackCount = 0 ∧
      flagOf t .link = true ∧ t.link.errors = s.link.errors ∧ t.link.flight = s.link.flight ∧
      t.link.outcome = s.link.outcome := by
  obtain ⟨hstation, -, -, hcount⟩ := atTestPoint_control s
  have healthy : (atTestPoint s).linkHealthy = true := by
    rcases peers_healthy s hp with h | h <;> simp [State.linkHealthy, ho, h]
  have tested := testPoint_fallback (atTestPoint s) (hstation.trans hs) (by rw [hcount]; exact hc) healthy
  obtain ⟨hevents, hctl, hworked, hflight, herrors, houtcome⟩ := expiryRun_afterTests order s _ tested
  rw [returnToRun_ctl] at hctl
  have link : (returnToRun (atTestPoint s)).link = s.link := by simp
  rw [link] at hflight herrors houtcome
  have answered : exec (.fallbackExit order) s = .next (expiryRun order s).state :=
    congrArg Host.Outcome.next (namedExpiry_of_event order s .fallbackExit (by rw [hs]; rfl) (hevents _ (by simp)))
  have raised : flagOf (returnToRun (atTestPoint s)) .link = true := flagsKept_refreshBias _ _ (by simp)
  exact ⟨_, answered, by rw [hctl], by rw [hctl], hworked.flags _ raised, herrors, hflight, houtcome⟩

/-- Settles O30. -/
theorem expiriesThatEnterRun : Obligations.ExpiriesThatEnterRun := by
  unfold Obligations.ExpiriesThatEnterRun
  exact ⟨listenEnd_entersRun, fallbackExit_entersRun⟩

end Machine
end Sys2Proof

/-! Proofs. The peer table through a share-timer expiry: it ages before the test point, and no later work reaches the island view
(R41, R52, R144). -/

namespace Sys2Proof
namespace Machine

open Safety

/-! ### Aging (R41) -/

/-- `e'` is the entry `e` one share period older, its transfer aside: FRESH, STALE or LOST by its age, an INCOMPATIBLE one still so
and below age 8. -/
def AgedFrom (e e' : PeerEntry) : Prop :=
  e'.address = e.address ∧ e'.age = min (e.age + 1) 255 ∧ e'.role = e.role ∧ e'.sect = e.sect ∧ e'.body = e.body ∧
  e'.tripped = e.tripped ∧ (e.state = .incompatible → e'.state = .incompatible ∧ e'.age < 8) ∧
  (e.state ≠ .incompatible → e'.state = (if e'.age ≤ 2 then .fresh else if e'.age ≤ 7 then .stale else .lost))

/-- An entry counts its periods up to 255. -/
theorem agedCount_eq (n : Nat) : (if n < 255 then n + 1 else 255) = min (n + 1) 255 := by split <;> omega

theorem aged_of_compatible (e : PeerEntry) (h : e.state ≠ .incompatible) :
    e.aged = some { e with age := min (e.age + 1) 255, state := ageState (min (e.age + 1) 255) } := by
  cases hs : e.state with
  | incompatible => exact absurd hs h
  | _ => simp only [PeerEntry.aged, hs, agedCount_eq]

theorem aged_of_incompatible (e : PeerEntry) (h : e.state = .incompatible) :
    e.aged = if 8 ≤ min (e.age + 1) 255 then none else some { e with age := min (e.age + 1) 255 } := by
  simp only [PeerEntry.aged, h, agedCount_eq]

theorem agedFrom_of_aged (e e' : PeerEntry) (h : e.aged = some e') : AgedFrom e e' := by
  by_cases hs : e.state = .incompatible
  · rw [aged_of_incompatible e hs] at h
    split at h
    · cases h
    · next young =>
      cases h
      exact ⟨rfl, rfl, rfl, rfl, rfl, rfl, fun _ => ⟨hs, Nat.not_le.1 young⟩, fun h => absurd hs h⟩
  · rw [aged_of_compatible e hs] at h
    cases h
    exact ⟨rfl, rfl, rfl, rfl, rfl, rfl, fun h => absurd h hs, fun _ => rfl⟩

/-- Only an INCOMPATIBLE entry that reaches age 8 is removed. -/
theorem exists_aged (e : PeerEntry) (h : e.state ≠ .incompatible ∨ e.age + 1 < 8) : ∃ e', e.aged = some e' := by
  by_cases hs : e.state = .incompatible
  · have young : ¬ 8 ≤ min (e.age + 1) 255 := by
      rcases h with h | h
      · exact absurd hs h
      · omega
    exact ⟨_, by rw [aged_of_incompatible e hs, if_neg young]⟩
  · exact ⟨_, aged_of_compatible e hs⟩

/-- `new` is the table `old` one share period older. -/
def TableAged (old new : List PeerEntry) : Prop :=
  (∀ e' ∈ new, ∃ e ∈ old, AgedFrom e e') ∧
  ∀ e ∈ old, (e.state ≠ .incompatible ∨ e.age + 1 < 8) → ∃ e' ∈ new, e'.address = e.address ∧ e'.age = min (e.age + 1) 255

theorem tableAged_agePeers (peers : List PeerEntry) : TableAged peers (agePeers peers) := by
  refine ⟨fun e' he' => ?_, fun e he stays => ?_⟩
  · obtain ⟨e, he, aged⟩ := List.mem_filterMap.1 he'
    exact ⟨e, he, agedFrom_of_aged e e' aged⟩
  · obtain ⟨e', aged⟩ := exists_aged e stays
    obtain ⟨haddress, hage, -⟩ := agedFrom_of_aged e e' aged
    exact ⟨e', List.mem_filterMap.2 ⟨e, he, aged⟩, haddress, hage⟩

/-- The dropping of transfers takes nothing from a table's age (R48). -/
theorem TableAged.dropTransfers {old new : List PeerEntry} (h : TableAged old new) :
    TableAged old (dropTransfers new) := by
  obtain ⟨comes, stays⟩ := h
  refine ⟨fun e' he' => ?_, fun e he hs => ?_⟩
  · obtain ⟨e₀, he₀, rfl⟩ := List.mem_map.1 he'
    exact comes e₀ he₀
  · obtain ⟨e₀, he₀, haddress, hage⟩ := stays e he hs
    exact ⟨_, List.mem_map_of_mem he₀, haddress, hage⟩

/-! ### The island view through an expiry (R52, R144) -/

/-- The state tests leave the island view. -/
theorem testPoint_view (r : ExpiryRun) : (testPoint r).state.view = r.state.view := by
  cases h : r.state.ctl.station <;> simp only [testPoint, h]
  case listen => split <;> simp [ExpiryRun.note, ExpiryRun.withState]
  case run => split <;> simp [ExpiryRun.withState]
  case fallback =>
    split
    · split <;> simp [ExpiryRun.note, ExpiryRun.withState]
    · simp [ExpiryRun.withState]

/-- After the test point no block reaches the island view. -/
theorem expiryPart_view (tieChange : Bool) (part : ExpiryPart) (r : ExpiryRun) :
    (expiryPart tieChange part r).state.view = r.state.view := by
  cases part with
  | loadShare => simp [expiryPart, ExpiryRun.withState]
  | demand =>
    simp only [expiryPart, demandWork]
    split
    · split <;> simp [ExpiryRun.withState, ExpiryRun.note]
    · rfl
  | shed => simp [expiryPart, shedWork, ExpiryRun.withState]
  | link => simp [expiryPart, ExpiryRun.withState]

/-- The island view stands from the test point to the end of the expiry. -/
theorem expiryRun_view (order : List ExpiryPart) (s : State) : (expiryRun order s).state.view = (atTestPoint s).view :=
  foldl_keeps (fun r part => expiryPart (s.tieChangesTo (atTestPoint s)) part r)
    (fun r => r.state.view = (atTestPoint s).view) (fun r q h => (expiryPart_view _ q r).trans h)
    (wholeOrder ExpiryPart.all order) (testPoint { state := atTestPoint s, events := [] }) (testPoint_view _)

/-- An expiry leaves the table one share period older (R41). -/
theorem tableAged_expiryRun (order : List ExpiryPart) (s : State) :
    TableAged s.view.peers (expiryRun order s).state.view.peers := by
  rw [expiryRun_view]
  rcases atTestPoint_peers s with h | h <;> rw [h]
  · exact tableAged_agePeers _
  · exact (tableAged_agePeers _).dropTransfers

/-- Settles O28: the table ages before the test point, and no later work reaches it. -/
theorem expiryAgesPeers : Obligations.ExpiryAgesPeers := by
  unfold Obligations.ExpiryAgesPeers
  exact fun order s ha => ⟨_, by rw [exec_shareTimerExpiry, if_pos ha], tableAged_expiryRun order s⟩

end Machine
end Sys2Proof

/-! Proofs. The island sums as totals of the rows of the table of R46 (R46 to R49). -/

namespace Sys2Proof
namespace Machine

open Safety

/-- A total over the values that are there is the total with 0 for each that is not. -/
theorem total_filterMap {α : Type} (f : α → Option Int) (l : List α) :
    total (l.filterMap f) = total (l.map (fun x => (f x).getD 0)) := by
  induction l with
  | nil => rfl
  | cons x rest ih =>
    unfold total at ih
    cases h : f x <;> simp [total, h, ih]

/-- A peer's contribution is its row; a peer not counted has the row 0 (R46). -/
theorem contribution_row (e : PeerEntry) : e.contribution.getD (0, 0) = (rowLoad e, rowCapacity e) := by
  unfold PeerEntry.contribution rowLoad rowCapacity
  by_cases hi : e.state = .incompatible
  · simp [hi]
  · cases ht : e.tripped with
    | true => simp [hi]
    | false =>
      cases e.body with
      | none => simp [hi]
      | feed b => simp [hi]
      | gen b =>
        cases hb : b.unit.onBus with
        | false => simp [hi, hb]
        | true => by_cases hl : e.state = .lost ∨ b.measBad = true <;> simp [hi, hb, hl]

/-- What the peers add to a sum is the total of their rows. -/
theorem total_contributions (part : Int × Int → Int) (h : part (0, 0) = 0) (sets : List PeerEntry) :
    total ((sets.filterMap PeerEntry.contribution).map part) =
      total (sets.map (fun e => part (rowLoad e, rowCapacity e))) := by
  have row (e : PeerEntry) : (e.contribution.map part).getD 0 = part (rowLoad e, rowCapacity e) :=
    calc (e.contribution.map part).getD 0
      _ = (e.contribution.map part).getD (part (0, 0)) := by rw [h]
      _ = part (e.contribution.getD (0, 0)) := Option.getD_map part (0, 0) e.contribution
      _ = part (rowLoad e, rowCapacity e) := by rw [contribution_row]
  rw [List.map_filterMap, total_filterMap]
  simp only [row]

section Sums

variable (s : State)

theorem computeSums_l :
    s.computeSums.l = s.ownLoad + total (s.islandSets.map rowLoad) +
      total (s.islandSets.map (fun e => e.transfer.getD 0)) := by
  have loads := total_contributions Prod.fst rfl s.islandSets
  rw [← loads, ← total_filterMap]
  rfl

theorem computeSums_c : s.computeSums.c = s.ownCapacity + total (s.islandSets.map rowCapacity) := by
  have capacities := total_contributions Prod.snd rfl s.islandSets
  rw [← capacities]
  rfl

theorem computeSums_lf :
    s.computeSums.lf =
      if 1 ≤ s.computeSums.c then some (roundDiv (s.computeSums.l * 10000) s.computeSums.c) else none := rfl

/-- Lf is the rounded quotient where the capacity is at least 1 (R49). -/
theorem computeSums_lf_rounded (h : 1 ≤ s.computeSums.c) :
    ∃ x, s.computeSums.lf = some x ∧ IsRounded x (s.computeSums.l * 10000) s.computeSums.c.toNat := by
  have rounded := isRounded_roundDiv (s.computeSums.l * 10000) s.computeSums.c.toNat (by omega)
  rw [Int.toNat_of_nonneg (by omega)] at rounded
  exact ⟨_, by rw [computeSums_lf, if_pos h], rounded⟩

/-- With no genset entry in the island the own row alone is summed. -/
theorem computeSums_alone (h : s.islandSets = []) :
    s.computeSums.l = s.ownLoad ∧ s.computeSums.c = s.ownCapacity := by
  rw [computeSums_l, computeSums_c, h]
  simp [total]

end Sums

/-- Settles O47, by the totals of the rows. -/
theorem islandSumsBalance : Obligations.IslandSumsBalance := by
  unfold Obligations.IslandSumsBalance
  intro s t e
  subst e
  rw [formSums_view]
  refine ⟨rfl, fun hc => ?_, computeSums_lf_rounded s, fun sets hsets => ?_, computeSums_alone s, by simp [Kept]⟩
  · show s.computeSums.lf = none
    rw [computeSums_lf, if_neg (Int.not_le.2 hc)]
  · have island : sets = s.islandSets := hsets
    rw [island]
    exact ⟨computeSums_l s, computeSums_c s⟩

end Machine
end Sys2Proof

/-! Proofs. The order of the peer table through every command and every step (R37): most operations leave its addresses or take some
away; a reset and STANDBY entry empty it; an arrival puts an entry, never at the own address. -/

namespace Sys2Proof
namespace Machine

open Safety

/-! ### What keeps the order of the table (R37) -/

/-- The own address stands and the table gains no entry: its addresses are some of those before, in their order. -/
structure TableKept (s t : State) : Prop where
  own : t.ctl.straps.address = s.ctl.straps.address
  addresses : (t.view.peers.map PeerEntry.address).Sublist (s.view.peers.map PeerEntry.address)

/-- What leaves the straps and the table alone keeps the table. -/
theorem TableKept.of_eq {s t : State} (hstraps : t.ctl.straps = s.ctl.straps) (hpeers : t.view.peers = s.view.peers) :
    TableKept s t :=
  ⟨by rw [hstraps], by rw [hpeers]⟩

theorem TableKept.refl (s : State) : TableKept s s := .of_eq rfl rfl

theorem TableKept.trans {s t u : State} (h : TableKept s t) (k : TableKept t u) : TableKept s u :=
  ⟨k.own.trans h.own, k.addresses.trans h.addresses⟩

theorem TableKept.ite {s t : State} {c : Prop} [Decidable c] (h : c → TableKept s t) :
    TableKept s (if c then t else s) := by
  split
  · next hc => exact h hc
  · exact .refl s

/-- A table with no entry is in order. -/
theorem peersOk_of_empty {t : State} (h : t.view.peers = []) : peersOk t := by
  unfold peersOk
  rw [h]
  exact ⟨List.Pairwise.nil, fun _ he => absurd he List.not_mem_nil⟩

theorem peersOk_of_kept {s t : State} (h : peersOk s) (k : TableKept s t) : peersOk t := by
  obtain ⟨sorted, foreign⟩ := h
  refine ⟨sorted.sublist k.addresses, fun e he => ?_⟩
  obtain ⟨e₀, he₀, same⟩ := List.mem_map.1 (k.addresses.subset (List.mem_map_of_mem he))
  rw [k.own, ← same]
  exact foreign e₀ he₀

/-- An entry put at an address that is not the own keeps the table in order. -/
theorem peersOk_putPeer {s t : State} (e : PeerEntry) (h : peersOk s) (he : e.address ≠ s.ctl.straps.address)
    (hstraps : t.ctl.straps = s.ctl.straps) (hpeers : t.view.peers = putPeer e s.view.peers) : peersOk t := by
  obtain ⟨sorted, foreign⟩ := h
  unfold peersOk
  rw [hpeers, hstraps]
  refine ⟨putPeer_sorted e _ sorted, fun x hx => ?_⟩
  rcases mem_putPeer e x _ hx with rfl | hx
  · exact he
  · exact foreign x hx

/-- Aging leaves addresses of the table in their order (R41). -/
theorem agePeers_addresses (peers : List PeerEntry) :
    ((agePeers peers).map PeerEntry.address).Sublist (peers.map PeerEntry.address) := by
  induction peers with
  | nil => exact .slnil
  | cons e rest ih =>
    cases h : e.aged with
    | none => rw [agePeers, List.filterMap_cons_none h]; exact ih.cons _
    | some e' =>
      obtain ⟨same, -⟩ := agedFrom_of_aged e e' h
      rw [agePeers, List.filterMap_cons_some h, List.map_cons, List.map_cons, same]
      exact ih.cons_cons _

theorem dropTransfers_addresses (peers : List PeerEntry) :
    (dropTransfers peers).map PeerEntry.address = peers.map PeerEntry.address := by
  simp [dropTransfers, Function.comp_def]

theorem clearHeard_addresses (source : Address) (peers : List PeerEntry) :
    (clearHeard source peers).map PeerEntry.address = peers.map PeerEntry.address := by
  rw [clearHeard, List.map_map]
  refine List.map_congr_left fun e _ => ?_
  show (if e.role = .genset ∧ e.address ≠ source then { e with heard := false } else e).address = e.address
  split <;> rfl

/-! ### Entering a station state -/

theorem peersOk_resetStation (pins : Straps) (cut : StoreCut) (s : State) : peersOk (resetStation pins cut s) := by
  obtain ⟨-, -, -, hview, -⟩ := resetStation_blocks pins cut s
  exact peersOk_of_empty (by rw [hview]; rfl)

theorem tableKept_endInit (s : State) : TableKept s (endInit s) :=
  .of_eq (by simp [endInit, Control.endInit]) (by simp [endInit])

theorem tableKept_enterListen (s : State) : TableKept s (enterListen s) := .of_eq (by simp [enterListen]) (by simp)

theorem tableKept_transmitFailure (s : State) : TableKept s (transmitFailure s) := by
  unfold transmitFailure
  split
  · exact .of_eq (by simp [enterFallback_ctl]) (by simp)
  · exact .refl s

theorem tableKept_addressClash (s : State) : TableKept s (addressClash s) := by
  have straps (t : State) : (enterSilent t).ctl.straps = t.ctl.straps := by
    simp only [enterSilent]; split <;> simp [zeroNeedTimers]
  exact .ite fun _ => .of_eq (by simp [straps]) (by simp)

/-! ### Frame arrivals (R34, R38, R39, R40) -/

/-- A derivation of the tie state keeps the table (R44). -/
theorem tableKept_deriveTieNow (s : State) : TableKept s (deriveTieNow s) :=
  .of_eq (by simp) (follows_deriveTieNow s).peers

theorem tableKept_deriveIf (c : Bool) (s : State) : TableKept s (deriveIf c s) := .ite fun _ => tableKept_deriveTieNow s

/-- An entry put at an address that is not the own, and what then keeps the table. -/
theorem peersOk_entered {s t : State} (e : PeerEntry) (h : peersOk s) (he : e.address ≠ s.ctl.straps.address)
    (k : TableKept (enterPeer e s) t) : peersOk t :=
  peersOk_of_kept (peersOk_putPeer (t := enterPeer e s) e h he rfl rfl) k

section Arrivals

variable (f : Frame) (s : State)

theorem peersOk_arriveIncompatible (h : peersOk s) (hf : f.source ≠ s.ctl.straps.address) :
    peersOk (arriveIncompatible f s) := by
  refine peersOk_entered (incompatibleEntry f (findPeer s.view.peers f.source)) h hf ?_
  exact (TableKept.of_eq (by simp) (by simp)).trans (tableKept_deriveIf _ _)

theorem peersOk_arriveGen (b : GenBody) (h : peersOk s) (hf : f.source ≠ s.ctl.straps.address) :
    peersOk (arriveGen f b s) := by
  obtain ⟨transfer, entry⟩ := genArrival_spec f b (findPeer s.view.peers f.source)
  exact peersOk_entered (genArrival f b (findPeer s.view.peers f.source)) h (by rw [entry]; exact hf)
    (tableKept_deriveIf _ _)

theorem peersOk_arriveFeed (b : FeedBody) (h : peersOk s) (hf : f.source ≠ s.ctl.straps.address) :
    peersOk (arriveFeed f b s) := by
  obtain ⟨tripped, transfer, heard, entry⟩ := feedArrival_spec f b (findPeer s.view.peers f.source)
  exact peersOk_entered (feedArrival f b (findPeer s.view.peers f.source)) h (by rw [entry]; exact hf)
    (tableKept_deriveTieNow _)

/-- The island view's part of a TRIP ALERT puts the sender's entry and clears marks of others (R40). -/
theorem peersOk_tripSums (ratedKw p : Int) (h : peersOk s) (hf : f.source ≠ s.ctl.straps.address) :
    peersOk (tripSums f ratedKw p s) := by
  obtain ⟨body, heard, entry⟩ := tripArrival_spec f ratedKw p (findPeer s.view.peers f.source)
  obtain ⟨hpeers, -⟩ :=
    immediateSums_view (deriveIf (wasFeeder (findPeer s.view.peers f.source)) (tripView f ratedKw p s))
  have peers : (tripSums f ratedKw p s).view.peers =
      clearHeard f.source (putPeer (tripArrival f ratedKw p (findPeer s.view.peers f.source)) s.view.peers) :=
    hpeers.trans (follows_deriveIf _ _).peers
  refine peersOk_entered (tripArrival f ratedKw p (findPeer s.view.peers f.source)) h (by rw [entry]; exact hf) ⟨by simp, ?_⟩
  rw [peers, clearHeard_addresses]
  exact .refl _

theorem peersOk_arriveTrip (ratedKw p : Int) (captureFirst : Bool) (h : peersOk s)
    (hf : f.source ≠ s.ctl.straps.address) : peersOk (arriveTrip f ratedKw p captureFirst s) := by
  have offered (t : State) : TableKept t (offerTrigger .tripHeard t) := .of_eq (by simp) (by simp)
  have raised : peersOk (raise .tripHeard s) := peersOk_of_kept h (.of_eq rfl rfl)
  unfold arriveTrip
  split
  · exact peersOk_tripSums f _ ratedKw p (peersOk_of_kept raised (offered _)) (by simpa using hf)
  · exact peersOk_of_kept (peersOk_tripSums f _ ratedKw p raised hf) (offered _)

/-- A SHED ALERT refreshes the sender's entry where there is one (R40). -/
theorem peersOk_arriveShed (cut : Nat) (h : peersOk s) (hf : f.source ≠ s.ctl.straps.address) :
    peersOk (arriveShed f cut s) := by
  have peers : (arriveShed f cut s).view.peers = shedArrival f s.view.peers := by simp [arriveShed]
  unfold shedArrival at peers
  split at peers
  · exact peersOk_of_kept h (.of_eq (by simp) peers)
  · next e found =>
    obtain ⟨address, -⟩ := findPeer_address _ _ e found
    split at peers
    · exact peersOk_of_kept h (.of_eq (by simp) peers)
    · exact peersOk_putPeer _ h (by rw [← address] at hf; exact hf) (by simp) peers

/-- An arrival from another address keeps the table in order. -/
theorem peersOk_arrive (captureFirst : Bool) (h : peersOk s) (hf : f.source ≠ s.ctl.straps.address) :
    peersOk (arrive f captureFirst s) := by
  unfold arrive
  split
  · split
    · exact peersOk_arriveGen f s _ h hf
    · exact peersOk_arriveFeed f s _ h hf
    · exact peersOk_arriveTrip f s _ _ captureFirst h hf
    · exact peersOk_arriveShed f s _ h hf
  · exact peersOk_arriveIncompatible f s h hf

/-- A frame of the own address is an address clash and enters nothing (R35). -/
theorem peersOk_takeFrame (captureFirst : Bool) (h : peersOk s) : peersOk (takeFrame f captureFirst s) := by
  unfold takeFrame
  split
  · exact peersOk_of_kept h (tableKept_addressClash s)
  · next hf => exact peersOk_arrive f s captureFirst h hf

end Arrivals

/-! ### The share link's commands -/

theorem tableKept_errFrame (fl : Flight) (s : State) : TableKept s (errFrame fl s) := by
  rw [errFrame_def]
  split
  · exact .trans (t := s.setLink (s.link.erred fl)) (.of_eq rfl rfl) (tableKept_transmitFailure _)
  · exact .of_eq rfl rfl

theorem tableKept_endFlight (fl : Flight) (line : List Bool) (s : State) : TableKept s (endFlight fl line s) := by
  unfold endFlight
  cases fl.judge line with
  | lost => exact .of_eq rfl rfl
  | sent => exact tableKept_errFrame fl s
  | erred => exact tableKept_errFrame fl s

theorem tableKept_endReception (n : Nat) (s : State) : TableKept s (endReception n s) := .of_eq rfl rfl

theorem tableKept_dropFrame (line : List Bool) (n : Nat) (s : State) : TableKept s (dropFrame line n s) := by
  unfold dropFrame
  cases s.link.flight with
  | none => exact tableKept_endReception n s
  | some fl => exact (tableKept_endFlight fl line s).trans (tableKept_endReception n _)

theorem peersOk_validFrame (line : List Bool) (f : Frame) (captureFirst : Bool) (s : State) (h : peersOk s) :
    peersOk (validFrame line f captureFirst s) := by
  have taken (t : State) (k : TableKept s t) : peersOk (takeFrame f captureFirst (endReception 0 t)) :=
    peersOk_takeFrame f _ captureFirst (peersOk_of_kept h (k.trans (tableKept_endReception 0 t)))
  unfold validFrame
  cases s.link.flight with
  | none => exact taken s (.refl s)
  | some fl =>
    cases hj : fl.judge line with
    | sent => simp only [hj]; exact peersOk_of_kept h (.of_eq rfl rfl)
    | lost => simp only [hj]; exact taken _ (.of_eq rfl rfl)
    | erred => simp only [hj]; exact taken _ (tableKept_errFrame fl s)

theorem peersOk_frameReceived (line : List Bool) (captureFirst : Bool) (s : State) (h : peersOk s) :
    Answers peersOk (execFrameReceived line captureFirst s) := by
  unfold execFrameReceived
  split
  · cases receive line with
    | incomplete => exact answers_next h
    | dropped n => exact answers_next (peersOk_of_kept h (tableKept_dropFrame line n s))
    | valid f => exact answers_next (peersOk_validFrame line f captureFirst s h)
  · exact answers_next (peersOk_of_kept h (.of_eq rfl rfl))

theorem peersOk_transmitError (s : State) (h : peersOk s) : Answers peersOk (execTransmitError s) := by
  intro t e
  rcases execTransmitError_cases s t e with ⟨-, rfl⟩ | ⟨fl, -, ⟨-, rfl⟩ | ⟨-, rfl, -⟩⟩
  · exact h
  · exact peersOk_of_kept h (tableKept_errFrame fl s)
  · exact peersOk_of_kept h ((tableKept_errFrame fl s).trans (.of_eq rfl rfl))

theorem peersOk_frameStart (s : State) (h : peersOk s) : Answers peersOk (execFrameStart s) := by
  unfold execFrameStart
  split
  · cases s.offer with
    | none => exact answers_next h
    | some x => exact answers_next (peersOk_of_kept h (.of_eq rfl rfl))
  · exact answers_next h

theorem peersOk_arbitrationLoss (s : State) (h : peersOk s) : Answers peersOk (execArbitrationLoss s) := by
  unfold execArbitrationLoss
  cases s.link.flight with
  | none => exact answers_next h
  | some fl => exact answers_next (peersOk_of_kept h (.of_eq rfl rfl))

/-! ### Intake's commands and the share-timer expiry -/

theorem peersOk_sampleArrival (bytes : List Byte) (order : List SamplePart) (s : State) (h : peersOk s) :
    Answers peersOk (execSampleArrival bytes order s) := by
  unfold execSampleArrival
  split
  · cases parseSample s.ctl.straps.role bytes with
    | none => exact answers_next h
    | some x =>
      exact answers_next (peersOk_of_kept h (.of_eq (by rw [acceptSample_ctl]) (acceptSample_peers x order s)))
  · exact answers_next h

theorem peersOk_transitTimeout (b : Breaker) (s : State) (h : peersOk s) :
    Answers peersOk (execTransitTimeout b s) := by
  cases b with
  | set => exact answers_ite h fun _ => peersOk_of_kept h (.of_eq rfl rfl)
  | group g => exact answers_ite h fun _ => peersOk_of_kept h (.of_eq rfl rfl)
  | tie =>
    exact answers_ite h fun _ => peersOk_of_kept h ((TableKept.of_eq (by simp) (by simp)).trans (tableKept_deriveTieNow _))

/-- An expiry takes addresses out of the table at most (R41). -/
theorem tableKept_expiryRun (order : List ExpiryPart) (s : State) : TableKept s (expiryRun order s).state := by
  obtain ⟨st, listen, fallback, -, hctl⟩ := expiryRun_ctl order s
  refine ⟨?_, ?_⟩
  · rw [hctl, applyStaged_ctl]; split <;> rfl
  · rw [expiryRun_view]
    rcases atTestPoint_peers s with hp | hp <;> rw [hp]
    · exact agePeers_addresses _
    · rw [dropTransfers_addresses]; exact agePeers_addresses _

theorem tableKept_shareExpiry (order : List ExpiryPart) (s : State) : TableKept s (shareExpiry order s) :=
  .ite fun _ => tableKept_expiryRun order s

theorem tableKept_namedExpiry (e : ExpiryEvent) (order : List ExpiryPart) (s : State) :
    TableKept s (namedExpiry e order s) :=
  .ite fun _ => tableKept_expiryRun order s

/-! ### The service port -/

theorem peersOk_endSelect (s : State) (h : peersOk s) : peersOk (endSelect s) := by
  unfold endSelect
  split
  · exact peersOk_of_kept (peersOk_resetStation s.ctl.pins .before s) (.of_eq rfl rfl)
  · exact peersOk_of_kept h (.of_eq rfl rfl)

theorem peersOk_enterStandbyState (s : State) : peersOk (enterStandbyState s) := by
  obtain ⟨empty, -⟩ := enterStandbyState_view s
  exact peersOk_of_empty empty

theorem tableKept_stageEffect (fields : List Byte) (s : State) : TableKept s (stageEffect fields s) := by
  refine .of_eq ?_ (by simp)
  unfold stageEffect
  split <;> simp

theorem peersOk_effect (c : Service) (fields : List Byte) (s : State) (h : peersOk s) : peersOk (c.effect fields s) := by
  cases c with
  | enterStandby =>
    show peersOk (standbyEffect s)
    unfold standbyEffect
    split
    · exact peersOk_enterStandbyState s
    · exact h
  | resume => exact peersOk_of_kept h (tableKept_enterListen s)
  | stage => exact peersOk_of_kept h (tableKept_stageEffect fields s)
  | clearTrip => exact peersOk_of_kept h (.of_eq (by simp [Service.effect]) (by simp [Service.effect]))
  | forceCapture => exact peersOk_of_kept h (.of_eq (by simp [Service.effect]) (by simp [Service.effect]))
  | _ => exact peersOk_of_kept h (.of_eq rfl rfl)

theorem peersOk_serve (code : Byte) (fields : List Byte) (s : State) (h : peersOk s) : peersOk (serve code fields s) := by
  have ended := peersOk_endSelect s h
  unfold serve answerCommand
  split
  · split
    · exact ended
    · next c _ => exact peersOk_of_kept (peersOk_effect c fields _ ended) (.of_eq rfl rfl)
  · exact peersOk_of_kept ended (.of_eq rfl rfl)

theorem peersOk_statusReadClear (s : State) (h : peersOk s) : Answers peersOk (execStatusReadClear s) := by
  unfold execStatusReadClear
  split
  · cases s.ctl.cfg.ackMode <;> exact answers_next (peersOk_of_kept h (.of_eq rfl rfl))
  · exact answers_next h

/-- A store operation's completion leaves the straps (R159). -/
theorem storeDone_straps (c : Control) : c.storeDone.straps = c.straps := by
  unfold Control.storeDone; split <;> rfl

theorem peersOk_storeCompletion (s : State) (h : peersOk s) : Answers peersOk (execStoreCompletion s) := by
  unfold execStoreCompletion
  split
  · exact answers_next h
  · exact answers_next (peersOk_of_kept h (.of_eq (storeDone_straps s.ctl) rfl))

/-! ### Every command and every step -/

/-- Every command keeps the peer table in order. -/
theorem exec_peersOk (c : Instr) (s : State) (h : peersOk s) : Answers peersOk (exec c s) := by
  have kept {t : State} (k : TableKept s t) : peersOk t := peersOk_of_kept h k
  cases c with
  | reset pins cut => exact answers_next (peersOk_resetStation pins cut s)
  | restartReset pins => exact answers_ite h fun _ => peersOk_resetStation pins .before s
  | endOfInit => exact answers_ite h fun _ => kept (tableKept_endInit s)
  | sampleArrival bytes order => exact peersOk_sampleArrival bytes order s h
  | measureTimerHeld => exact answers_ite h fun _ => kept (.of_eq rfl rfl)
  | measureTimerFault =>
    exact answers_ite h fun _ => kept ((TableKept.of_eq (by simp) (by simp)).trans (tableKept_deriveTieNow _))
  | transitTimeout b => exact peersOk_transitTimeout b s h
  | shareTimerExpiry order => exact answers_next (kept (tableKept_shareExpiry order s))
  | listenEnd order => exact answers_next (kept (tableKept_namedExpiry _ order s))
  | fallbackExit order => exact answers_next (kept (tableKept_namedExpiry _ order s))
  | startAttemptTimeout order => exact answers_next (kept (tableKept_namedExpiry _ order s))
  | stopNeedExpiry order => exact answers_next (kept (tableKept_namedExpiry _ order s))
  | settleTimerExpiry order => exact answers_next (kept (tableKept_namedExpiry _ order s))
  | ladderStep order => exact answers_next (kept (tableKept_namedExpiry _ order s))
  | restorationStep order => exact answers_next (kept (tableKept_namedExpiry _ order s))
  | confirmTimeout g => exact answers_ite h fun _ => kept (.of_eq rfl rfl)
  | tripTimeout => exact answers_ite h fun _ => kept (.of_eq rfl rfl)
  | stopPulseEnd => exact answers_ite h fun _ => kept (.of_eq rfl rfl)
  | timeTagWrap => exact answers_ite h fun _ => kept (.of_eq rfl rfl)
  | attentionPulseEnd => exact answers_ite h fun _ => kept (.of_eq rfl rfl)
  | lineIdle => exact answers_ite h fun _ => kept (.of_eq rfl rfl)
  | lineBusy => exact answers_next (kept (.of_eq rfl rfl))
  | frameStart => exact peersOk_frameStart s h
  | arbitrationLoss => exact peersOk_arbitrationLoss s h
  | transmitError => exact peersOk_transmitError s h
  | frameReceived line captureFirst => exact peersOk_frameReceived line captureFirst s h
  | readoutComplete => exact answers_ite h fun _ => kept (.of_eq (by simp) (by simp))
  | statusReadClear => exact peersOk_statusReadClear s h
  | storeCompletion => exact peersOk_storeCompletion s h
  | selectDeassert => exact answers_next (peersOk_endSelect s h)
  | _ => exact answers_next (peersOk_serve _ _ s h)

/-- A microsecond changes neither the straps nor the table. -/
theorem tableKept_idle (s : State) : TableKept s (idle s) := by
  rw [idle_eq]
  split <;> exact .of_eq rfl rfl

/-- Settles O10: an entry is put only at an arrival from another address, and all else keeps the table's order or empties it. -/
theorem stepKeepsPeerTable : Obligations.StepKeepsPeerTable := by
  unfold Obligations.StepKeepsPeerTable
  intro s t h e
  unfold step at e
  cases hq : s.pending with
  | nil => rw [hq] at e; exact answers_next (peersOk_of_kept h (tableKept_idle s)) t e
  | cons c rest => rw [hq] at e; exact exec_peersOk c { s with pending := rest } (peersOk_of_kept h (.of_eq rfl rfl)) t e

end Machine
end Sys2Proof

/-! Proofs. The set through every command and every step: BIAS-VALID with its biases, the outputs START, STOP and TRIP, and UNIT at
every change of unit state (R56 to R64, R73 to R79, R89 to R92). -/

namespace Sys2Proof
namespace Machine

open Safety

/-! ### What a piece of work may do to the set -/

/-- Both biases are 0 while BIAS-VALID is deasserted (R64). -/
def BiasesHeld (s : State) : Prop := s.ls.biasValid = false → s.ls.speedBias = 0 ∧ s.ls.voltBias = 0

/-- BIAS-VALID stands at the level of its conditions (R64). -/
def BiasLevelOk (s : State) : Prop := s.ls.biasValid = s.biasLevel

/-- Work that keeps the biases, the outputs and UNIT by their rules; BIAS-VALID need not have followed its conditions yet. -/
structure SetMoves (s t : State) : Prop where
  held : BiasesHeld s → BiasesHeld t
  range : biasRange s → biasRange t
  outputs : outputsOk s → outputsOk t
  flags : FlagsKept s t
  unit : t.ls.unit = s.ls.unit ∨ flagOf t .unit = true

/-- Work after which BIAS-VALID stands at its level where it did before. -/
structure SetLaws (s t : State) : Prop extends SetMoves s t where
  level : BiasLevelOk s → BiasLevelOk t

theorem SetMoves.trans {s t u : State} (h : SetMoves s t) (k : SetMoves t u) : SetMoves s u where
  held := k.held ∘ h.held
  range := k.range ∘ h.range
  outputs := k.outputs ∘ h.outputs
  flags := h.flags.trans k.flags
  unit := by
    rcases k.unit with same | raised
    · exact h.unit.imp same.trans (k.flags _)
    · exact .inr raised

theorem SetLaws.trans {s t u : State} (h : SetLaws s t) (k : SetLaws t u) : SetLaws s u :=
  ⟨h.toSetMoves.trans k.toSetMoves, k.level ∘ h.level⟩

/-- The outputs' law reads the unit, the outputs and which of their timers run. -/
theorem outputsOk_congr {s t : State} (h : outputsOk s) (hls : t.ls = s.ls) (hstart : t.demand.start = s.demand.start)
    (hattempt : t.demand.attempt.isSome = s.demand.attempt.isSome) : outputsOk t := by
  unfold outputsOk
  rw [hls, hstart, hattempt]
  exact h

/-- The conditions of R64 read the role, the station state, whether the set is on the bus, and the measure state. -/
theorem biasLevel_congr {s t : State} (hstraps : t.ctl.straps = s.ctl.straps) (hstation : t.ctl.station = s.ctl.station)
    (hbus : t.ls.unit.onBus = s.ls.unit.onBus) (hmeasure : t.intake.measure = s.intake.measure) :
    t.biasLevel = s.biasLevel := by
  simp only [State.biasLevel, State.isGenset, hstraps, hstation, hbus, hmeasure]

theorem biasLevel_of_not_run {s : State} (h : s.ctl.station ≠ .run) : s.biasLevel = false := by
  simp [State.biasLevel, h]

theorem biasLevel_of_offBus {s : State} (h : s.ls.unit.onBus = false) : s.biasLevel = false := by
  simp [State.biasLevel, h]

/-- The biases of `x` are those of `u` with BIAS-VALID as it was, or 0. -/
def BiasesKeptOrZero (u x : LoadShare) : Prop :=
  (x.biasValid = u.biasValid ∧ x.speedBias = u.speedBias ∧ x.voltBias = u.voltBias) ∨ (x.speedBias = 0 ∧ x.voltBias = 0)

/-- START is released and no start attempt runs (R89). -/
def StartAtRest (s : State) : Prop := s.demand.start = false ∧ s.demand.attempt = none

/-- TRIP is released, its timer stopped, and no trip has failed (R75, R77). -/
def TripAtRest (s : State) : Prop := s.ls.trip = false ∧ s.ls.tripTimer = none ∧ s.ls.tripFailed = false

/-- The outputs by the unit state (R75, R76, R79, R89): OFFLINE has STOP for a stop pulse, STARTING has START, RAMP-OUT has TRIP with
its timer or the trip-failed mark, TRIPPED has STOP, and no other output is asserted. -/
def OutputsByUnit (s : State) : Prop :=
  match s.ls.unit with
  | .offline => StartAtRest s ∧ s.ls.stop = s.ls.stopTimer.isSome ∧ TripAtRest s
  | .starting => s.demand.start = true ∧ s.demand.attempt.isSome = true ∧ s.ls.stop = false ∧ s.ls.stopTimer = none ∧
      TripAtRest s
  | .rampIn => StartAtRest s ∧ s.ls.stop = false ∧ s.ls.stopTimer = none ∧ TripAtRest s
  | .online => StartAtRest s ∧ s.ls.stop = false ∧ s.ls.stopTimer = none ∧ TripAtRest s
  | .rampOut => StartAtRest s ∧ s.ls.stop = false ∧ s.ls.stopTimer = none ∧ s.ls.tripTimer.isSome = s.ls.trip ∧
      (s.ls.trip = true → s.ls.tripFailed = false)
  | .tripped => StartAtRest s ∧ s.ls.stop = true ∧ s.ls.stopTimer = none ∧ TripAtRest s

theorem outputsOk_iff (s : State) : outputsOk s ↔ OutputsByUnit s := by
  unfold outputsOk OutputsByUnit StartAtRest TripAtRest
  cases s.ls.unit <;> grind [Option.isSome_iff_ne_none]

/-- TRIP is asserted in RAMP-OUT only (R75). -/
theorem rampOut_of_trip {s : State} (h : outputsOk s) (ht : s.ls.trip = true) : s.ls.unit = .rampOut := by
  obtain ⟨-, -, -, -, -, ramping, -⟩ := h
  exact (ramping ht).1

/-- A stop pulse runs in OFFLINE only (R79). -/
theorem offline_of_pulse {s : State} (h : outputsOk s) (hp : s.ls.stopTimer ≠ none) : s.ls.unit = .offline := by
  obtain ⟨-, -, -, off, -⟩ := h
  exact off hp

/-- Work that leaves the limits alone, and the biases or else zeros them. -/
theorem SetMoves.of_biases {s t : State} (flags : FlagsKept s t) (hlimit : t.ctl.cfg.biasLimit = s.ctl.cfg.biasLimit)
    (hvlimit : t.ctl.cfg.vBiasLimit = s.ctl.cfg.vBiasLimit) (biases : BiasesKeptOrZero s.ls t.ls)
    (outputs : outputsOk s → outputsOk t) (unit : t.ls.unit = s.ls.unit ∨ flagOf t .unit = true) : SetMoves s t where
  held h := by
    rcases biases with ⟨hvalid, hspeed, hvolt⟩ | zero
    · unfold BiasesHeld
      rw [hvalid, hspeed, hvolt]
      exact h
    · exact fun _ => zero
  range h := by
    unfold biasRange at h ⊢
    rw [hlimit, hvlimit]
    rcases biases with ⟨-, hspeed, hvolt⟩ | ⟨hspeed, hvolt⟩ <;> rw [hspeed, hvolt]
    · exact h
    · omega
  outputs := outputs
  flags := flags
  unit := unit

/-- Work that leaves the load-share unit, START, its timer's running and the limits alone. -/
theorem SetMoves.of_stands {s t : State} (flags : FlagsKept s t) (hls : t.ls = s.ls)
    (hstart : t.demand.start = s.demand.start) (hattempt : t.demand.attempt.isSome = s.demand.attempt.isSome)
    (hlimit : t.ctl.cfg.biasLimit = s.ctl.cfg.biasLimit) (hvlimit : t.ctl.cfg.vBiasLimit = s.ctl.cfg.vBiasLimit) :
    SetMoves s t :=
  .of_biases flags hlimit hvlimit (.inl (by rw [hls]; exact ⟨rfl, rfl, rfl⟩))
    (fun h => outputsOk_congr h hls hstart hattempt) (.inl (by rw [hls]))

/-- Work that also leaves the conditions of BIAS-VALID alone. -/
theorem SetMoves.laws {s t : State} (m : SetMoves s t) (hctl : t.ctl = s.ctl) (hintake : t.intake = s.intake)
    (hvalid : t.ls.biasValid = s.ls.biasValid) (hbus : t.ls.unit.onBus = s.ls.unit.onBus) : SetLaws s t where
  toSetMoves := m
  level h := by
    unfold BiasLevelOk
    rw [hvalid, biasLevel_congr (by rw [hctl]) (by rw [hctl]) hbus (by rw [hintake])]
    exact h

/-- Work that leaves the load-share unit, generation on demand, station control and intake alone. -/
theorem SetLaws.of_eq {s t : State} (flags : FlagsKept s t) (hctl : t.ctl = s.ctl) (hintake : t.intake = s.intake)
    (hls : t.ls = s.ls) (hdemand : t.demand = s.demand) : SetLaws s t :=
  (SetMoves.of_stands flags hls (by rw [hdemand]) (by rw [hdemand]) (by rw [hctl]) (by rw [hctl])).laws hctl hintake
    (by rw [hls]) (by rw [hls])

theorem SetMoves.refl (s : State) : SetMoves s s := .of_stands (.refl s) rfl rfl rfl rfl rfl

theorem SetLaws.refl (s : State) : SetLaws s s := .of_eq (.refl s) rfl rfl rfl rfl

theorem SetLaws.ite {s t : State} {c : Prop} [Decidable c] (h : c → SetLaws s t) : SetLaws s (if c then t else s) := by
  split
  · next hc => exact h hc
  · exact .refl s

theorem SetMoves.ite {s t : State} {c : Prop} [Decidable c] (h : c → SetMoves s t) : SetMoves s (if c then t else s) := by
  split
  · next hc => exact h hc
  · exact .refl s

/-- The outputs are the same in `x` as in `u`, and so is which of their timers run. -/
def SameOutputs (u x : LoadShare) : Prop :=
  x.unit = u.unit ∧ x.stop = u.stop ∧ x.stopTimer.isSome = u.stopTimer.isSome ∧ x.trip = u.trip ∧
  x.tripTimer.isSome = u.tripTimer.isSome ∧ x.tripFailed = u.tripFailed

theorem outputsOk_of_same {s : State} {x : LoadShare} (h : outputsOk s) (same : SameOutputs s.ls x) :
    outputsOk (s.setLs x) := by
  obtain ⟨hunit, hstop, hstopTimer, htrip, htripTimer, hfailed⟩ := same
  unfold outputsOk at h ⊢
  rw [ne_eq, ← Option.not_isSome_iff_eq_none, not_not] at h ⊢
  simp only [State.setLs_ls, State.setLs_demand, hunit, hstop, hstopTimer, htrip, htripTimer, hfailed]
  exact h

/-- A change of the load-share unit that leaves biases and outputs. -/
theorem setLaws_setLs (x : LoadShare) (s : State) (same : SameOutputs s.ls x)
    (biases : x.biasValid = s.ls.biasValid ∧ x.speedBias = s.ls.speedBias ∧ x.voltBias = s.ls.voltBias) :
    SetLaws s (s.setLs x) :=
  (SetMoves.of_biases (flagsKept_setLs x s) rfl rfl (.inl biases) (fun h => outputsOk_of_same h same) (.inl same.1)).laws
    rfl rfl biases.1 (congrArg UnitState.onBus same.1)

theorem setLaws_sendActuator (s : State) : SetLaws s (sendActuator s) :=
  .ite fun _ => setLaws_setLs _ s ⟨rfl, rfl, rfl, rfl, rfl, rfl⟩ ⟨rfl, rfl, rfl⟩

/-- A change of unit that raises UNIT (R62). -/
theorem setMoves_raiseUnit {s t : State} (hport : t.port = s.port) (hctl : t.ctl = s.ctl) (biases : BiasesKeptOrZero s.ls t.ls)
    (outputs : outputsOk s → outputsOk t) : SetMoves s (raise .unit t) :=
  .of_biases ((FlagsKept.of_port hport).trans (flagsKept_raise .unit t)) (by rw [raise_ctl, hctl]) (by rw [raise_ctl, hctl])
    biases outputs (.inr (by simp))

/-- A change of unit that leaves biases and BIAS-VALID, and the set on the bus or off it. -/
theorem setLaws_raiseUnit {s t : State} (hport : t.port = s.port) (hctl : t.ctl = s.ctl) (hintake : t.intake = s.intake)
    (hbus : t.ls.unit.onBus = s.ls.unit.onBus)
    (biases : t.ls.biasValid = s.ls.biasValid ∧ t.ls.speedBias = s.ls.speedBias ∧ t.ls.voltBias = s.ls.voltBias)
    (outputs : outputsOk s → outputsOk t) : SetLaws s (raise .unit t) :=
  (setMoves_raiseUnit hport hctl (.inl biases) outputs).laws hctl hintake biases.1 hbus

/-- A change of unit that takes the set off the bus and drops the biases. -/
theorem setLaws_offBus (x : LoadShare) (s : State) (hbus : x.unit.onBus = false)
    (dropped : x.biasValid = false ∧ x.speedBias = 0 ∧ x.voltBias = 0) (outputs : outputsOk s → outputsOk (s.setLs x)) :
    SetLaws s (raise .unit (s.setLs x)) where
  toSetMoves := setMoves_raiseUnit rfl rfl (.inr dropped.2) outputs
  level _ := dropped.1.trans (biasLevel_of_offBus hbus).symm

/-! ### BIAS-VALID and the ramp-out (R64, R78) -/

theorem setLaws_abandonRampOut (s : State) : SetLaws s (abandonRampOut s) := by
  refine .ite fun hu => setLaws_raiseUnit rfl rfl rfl (by rw [hu]; rfl) ⟨rfl, rfl, rfl⟩ fun h => ?_
  rw [outputsOk_iff] at h ⊢
  simp_all [OutputsByUnit, StartAtRest, TripAtRest, LoadShare.clearRamp]

theorem setMoves_dropBias (s : State) : SetMoves s (s.setLs s.ls.dropBias) :=
  .of_biases (flagsKept_setLs _ s) rfl rfl (.inr ⟨rfl, rfl⟩)
    (fun h => outputsOk_of_same h ⟨rfl, rfl, rfl, rfl, rfl, rfl⟩) (.inl rfl)

theorem setMoves_refreshBias (s : State) : SetMoves s (refreshBias s) := by
  unfold refreshBias
  split
  · exact (setMoves_dropBias s).trans (setLaws_abandonRampOut _).toSetMoves
  · next still =>
    refine ⟨fun h low => h ?_, fun h => h, fun h => outputsOk_of_same h ⟨rfl, rfl, rfl, rfl, rfl, rfl⟩, flagsKept_setLs _ s,
      .inl rfl⟩
    have fallen : s.biasLevel = false := low
    simpa [fallen] using still

theorem biasLevelOk_refreshBias (s : State) : BiasLevelOk (refreshBias s) := by
  unfold BiasLevelOk
  rw [refreshBias_biasValid]
  exact (biasLevel_congr (by simp) (by simp) (worked_refreshBias s).onBus (by simp)).symm

/-- BIAS-VALID following its conditions, whatever has moved before. -/
theorem setLaws_refreshBias {s t : State} (m : SetMoves s t) : SetLaws s (refreshBias t) :=
  ⟨m.trans (setMoves_refreshBias t), fun _ => biasLevelOk_refreshBias t⟩

theorem setLaws_refreshBiasNow {s t : State} (m : SetMoves s t) : SetLaws s (refreshBiasNow t) := by
  unfold refreshBiasNow
  split
  · exact (setLaws_refreshBias m).trans (setLaws_sendActuator _)
  · exact setLaws_refreshBias m

/-! ### The unit at breaker settles (R56, R57, R59, R76) -/

theorem setMoves_takeUpSet (s : State) : SetMoves s (takeUpSet s) := by
  refine .ite fun ⟨_, hu, _⟩ => setMoves_raiseUnit rfl rfl (.inr ⟨rfl, rfl⟩) fun h => ?_
  rw [outputsOk_iff] at h ⊢
  simp_all [OutputsByUnit, StartAtRest, TripAtRest, LoadShare.ontoBus, LoadShare.clearRamp]

theorem setLaws_setSettlesClosed (s : State) : SetLaws s (setSettlesClosed s) := by
  refine .ite fun ⟨_, hu⟩ => setLaws_refreshBiasNow (setMoves_raiseUnit rfl rfl (.inr ⟨rfl, rfl⟩) fun h => ?_)
  rw [outputsOk_iff] at h ⊢
  rcases hu with hu | hu <;>
    simp_all [OutputsByUnit, StartAtRest, TripAtRest, LoadShare.ontoBus, LoadShare.clearRamp, Demand.endAttempt]

/-- A record sent before UNIT is raised is the record sent after it. -/
theorem raise_sendActuator (f : ChangeFlag) (s : State) : raise f (sendActuator s) = sendActuator (raise f s) := by
  unfold sendActuator
  by_cases h : s.isGenset = true
  · rw [if_pos h, if_pos (by simpa [State.isGenset] using h)]; rfl
  · rw [if_neg h, if_neg (by simpa [State.isGenset] using h)]

theorem setLaws_queueAlert (a : Alert) (s : State) : SetLaws s (queueAlert a s) :=
  .of_eq (follows_queueAlert a s).flags (by simp) (by simp) (by simp) (by simp)

theorem setLaws_offerTrigger (cause : TriggerCause) (s : State) : SetLaws s (offerTrigger cause s) :=
  .of_eq (follows_offerTrigger cause s).flags (by simp) (by simp) (by simp) (by simp)

theorem setLaws_raise (f : ChangeFlag) (s : State) : SetLaws s (raise f s) :=
  .of_eq (flagsKept_raise f s) rfl rfl rfl rfl

theorem setLaws_raiseIf (c : Bool) (f : ChangeFlag) (s : State) : SetLaws s (raiseIf c f s) :=
  .ite fun _ => setLaws_raise f s

theorem onBus_iff (u : UnitState) : u.onBus = true ↔ u = .rampIn ∨ u = .online ∨ u = .rampOut := by
  cases u <;> simp [UnitState.onBus]

/-- A trip is one only with TRIP deasserted (R59). -/
theorem setLaws_tripSet (s : State) (hu : s.ls.unit.onBus = true) (ht : s.ls.trip = false) : SetLaws s (tripSet s) := by
  rw [tripSet, raise_sendActuator]
  refine (setLaws_queueAlert (.trip s.ctl.cfg.pRated s.intake.means.p) s).trans (.trans ?_
    ((setLaws_sendActuator _).trans (setLaws_offerTrigger _ _)))
  refine setLaws_offBus _ _ rfl ⟨rfl, rfl, rfl⟩ fun h => ?_
  rw [onBus_iff] at hu
  rw [outputsOk_iff] at h ⊢
  rcases hu with hu | hu | hu <;>
    simp_all [OutputsByUnit, StartAtRest, TripAtRest, LoadShare.tripNow, LoadShare.clearRamp, LoadShare.dropBias]

theorem setLaws_setSettlesOpen (s : State) : SetLaws s (setSettlesOpen s) := by
  refine .ite fun hu => ?_
  cases ht : s.ls.trip with
  | false => rw [if_neg (by simp)]; exact setLaws_tripSet s hu ht
  | true =>
    rw [if_pos rfl, raise_sendActuator]
    refine (setLaws_offBus _ s rfl ⟨rfl, rfl, rfl⟩ fun h => ?_).trans (setLaws_sendActuator _)
    have ramping := rampOut_of_trip h ht
    rw [outputsOk_iff] at h ⊢
    simp_all [OutputsByUnit, StartAtRest, TripAtRest, LoadShare.openedByTrip, LoadShare.clearRamp, LoadShare.dropBias]

/-! ### The cut rank, the sums and the tie state (R44, R78, R104) -/

theorem setLaws_increaseCut (cut : Nat) (cause : Option ShedCause) (s : State) : SetLaws s (increaseCut cut cause s) := by
  have raised : SetLaws s (raise .shedStep (s.setShed (s.shedRaised cut))) :=
    .of_eq ((flagsKept_setShed _ s).trans (flagsKept_raise .shedStep _)) rfl rfl rfl rfl
  have abandoned := (raised.trans (setLaws_offerTrigger .shedStep _)).trans
    (.ite (c := (offerTrigger .shedStep (raise .shedStep (s.setShed (s.shedRaised cut)))).isGenset = true)
      fun _ => setLaws_abandonRampOut _)
  cases cause with
  | none => exact abandoned
  | some c => exact abandoned.trans (setLaws_queueAlert (.shed cut c) _)

theorem setLaws_evaluateCapacity (s : State) : SetLaws s (evaluateCapacity s) := .ite fun _ => setLaws_increaseCut _ _ s

theorem setLaws_evaluateInRun (s : State) : SetLaws s (evaluateInRun s) := .ite fun _ => setLaws_evaluateCapacity s

theorem setLaws_ladderTest (s : State) : SetLaws s (ladderTest s) := .ite fun _ => setLaws_increaseCut _ _ s

theorem setLaws_deadEntry (s : State) : SetLaws s (deadEntry s) := .ite fun _ => setLaws_increaseCut _ _ s

theorem setLaws_adopt (cut : Nat) (inIsland : Bool) (s : State) : SetLaws s (adopt cut inIsland s) :=
  .ite fun _ => setLaws_increaseCut _ _ s

theorem setLaws_deficitAbandons (s : State) : SetLaws s (deficitAbandons s) := .ite fun _ => setLaws_abandonRampOut s

theorem setLaws_setView (x : View) (s : State) : SetLaws s (s.setView x) := .of_eq (.of_port rfl) rfl rfl rfl rfl

theorem setLaws_setShed (x : Shed) (s : State) : SetLaws s (s.setShed x) := .of_eq (.of_port rfl) rfl rfl rfl rfl

theorem setLaws_setLink (x : Link) (s : State) : SetLaws s (s.setLink x) := .of_eq (.of_port rfl) rfl rfl rfl rfl

theorem setLaws_immediateSums (s : State) : SetLaws s (immediateSums s) :=
  (setLaws_setView _ s).trans ((setLaws_deficitAbandons _).trans (setLaws_evaluateInRun _))

theorem setLaws_deriveTieNow (s : State) : SetLaws s (deriveTieNow s) := by
  unfold deriveTieNow
  split
  · exact .refl s
  · exact (setLaws_setView _ s).trans ((setLaws_setView _ _).trans ((setLaws_deficitAbandons _).trans
      ((setLaws_setShed _ _).trans (setLaws_evaluateInRun _))))

theorem setLaws_deriveIf (c : Bool) (s : State) : SetLaws s (deriveIf c s) := .ite fun _ => setLaws_deriveTieNow s

/-! ### One accepted sample (R3) -/

theorem setLaws_handSetBreaker (n : BreakerNews) (s : State) : SetLaws s (handSetBreaker n s) := by
  have raised := setLaws_raiseIf n.any .breaker s
  unfold handSetBreaker
  split
  · cases n.reading with
    | closed => exact raised.trans (setLaws_setSettlesClosed _)
    | opened => exact raised.trans (setLaws_setSettlesOpen _)
    | transit => exact raised
    | discrepant => exact raised
  · exact raised

theorem setLaws_handUfSet (s : State) : SetLaws s (handUfSet s) := by
  unfold handUfSet
  split
  · exact (setLaws_ladderTest s).trans (setLaws_setShed _ _)
  · exact setLaws_abandonRampOut s

theorem setLaws_handPart (n : SampleNews) (part : SamplePart) (s : State) : SetLaws s (handPart n part s) := by
  cases part with
  | breakers => exact (setLaws_handSetBreaker _ s).trans ((setLaws_setShed _ _).trans (setLaws_raiseIf _ .group _))
  | tie => exact (setLaws_raiseIf _ _ s).trans (.ite fun _ => setLaws_deriveTieNow _)
  | ufShed => exact .ite fun _ => setLaws_handUfSet s
  | ufTrigger => exact .ite fun _ => setLaws_offerTrigger _ s
  | dead => exact .ite fun _ => setLaws_deadEntry s
  | row => apply SetLaws.of_eq (follows_writeRow _ s).flags <;> simp

/-- Intake's own changes and the flags they raise move nothing of the set. -/
theorem setMoves_setIntake (x : Intake) (s : State) : SetMoves s (s.setIntake x) :=
  .of_stands (.of_port rfl) rfl rfl rfl rfl rfl

theorem setLaws_takeSample (x : Sample) (s : State) : SetLaws s (takeSample x s) :=
  setLaws_refreshBiasNow ((setMoves_setIntake _ s).trans
    ((setLaws_raiseIf _ .measure _).trans (setLaws_raiseIf _ .engineReady _)).toSetMoves)

theorem setLaws_acceptSample (x : Sample) (order : List SamplePart) (s : State) : SetLaws s (acceptSample x order s) :=
  foldl_keeps _ (fun t => SetLaws s t) (fun t part h => h.trans (setLaws_handPart _ part t)) _ _ (setLaws_takeSample x s)

/-! ### Frame arrivals (R34, R38, R39, R40) -/

theorem setLaws_tripSums (f : Frame) (ratedKw p : Int) (s : State) : SetLaws s (tripSums f ratedKw p s) :=
  (setLaws_setView _ s).trans ((setLaws_deriveIf _ _).trans (setLaws_immediateSums _))

theorem setLaws_arriveTrip (f : Frame) (ratedKw p : Int) (captureFirst : Bool) (s : State) :
    SetLaws s (arriveTrip f ratedKw p captureFirst s) := by
  have heard := setLaws_raise .tripHeard s
  unfold arriveTrip
  split
  · exact heard.trans ((setLaws_offerTrigger _ _).trans (setLaws_tripSums f ratedKw p _))
  · exact heard.trans ((setLaws_tripSums f ratedKw p _).trans (setLaws_offerTrigger _ _))

theorem setLaws_arrive (f : Frame) (captureFirst : Bool) (s : State) : SetLaws s (arrive f captureFirst s) := by
  unfold arrive
  split
  · split
    · exact (setLaws_setView _ s).trans (setLaws_deriveIf _ _)
    · exact (setLaws_setView _ s).trans (setLaws_deriveTieNow _)
    · exact setLaws_arriveTrip f _ _ captureFirst s
    · exact (setLaws_setView _ s).trans (setLaws_adopt _ _ _)
  · exact (setLaws_setView _ s).trans ((setLaws_raiseIf _ .link _).trans (setLaws_deriveIf _ _))

/-! ### Moves between station states (R147 to R150) -/

/-- A move of the station state, its counters set: BIAS-VALID has yet to follow. -/
theorem setMoves_station (st : StationState) (listen fallback : Nat) (s : State) :
    SetMoves s (s.setCtl { s.ctl with station := st, listenCount := listen, fallbackCount := fallback }) :=
  .of_stands (.of_port rfl) rfl rfl rfl rfl rfl

theorem setLaws_zeroNeedTimers (s : State) : SetLaws s (zeroNeedTimers s) :=
  have stands : SetMoves s (zeroNeedTimers s) :=
    .of_stands (.of_port (by simp)) (by simp) (by rfl) (by rfl) (by simp) (by simp)
  stands.laws (by simp) (by simp) (by simp) (by simp)

theorem setLaws_enterFallback (s : State) : SetLaws s (enterFallback s) :=
  setLaws_refreshBias ((setMoves_station .fallback s.ctl.listenCount 0 s).trans
    ((setLaws_raise .link _).trans (setLaws_zeroNeedTimers _)).toSetMoves)

theorem setLaws_returnToRun (s : State) : SetLaws s (returnToRun s) :=
  setLaws_refreshBias ((setMoves_station .run s.ctl.listenCount 0 s).trans (setLaws_raise .link _).toSetMoves)

theorem setLaws_enterRun (s : State) : SetLaws s (enterRun s) :=
  setLaws_refreshBias ((setMoves_station .run 0 s.ctl.fallbackCount s).trans
    ((setLaws_setLink _ _).toSetMoves.trans (setMoves_takeUpSet _)))

theorem setLaws_enterSilent (s : State) : SetLaws s (enterSilent s) := by
  have silenced : SetMoves s (zeroNeedTimers ((s.setCtl
      { s.ctl with station := .silent, listenCount := 0, fallbackCount := 0 }).setLink s.link.silenced)) :=
    (setMoves_station .silent 0 0 s).trans ((setLaws_setLink _ _).trans (setLaws_zeroNeedTimers _)).toSetMoves
  exact (setLaws_refreshBias (silenced.trans (.ite fun _ => setMoves_takeUpSet _))).trans (setLaws_sendActuator _)

theorem setLaws_transmitFailure (s : State) : SetLaws s (transmitFailure s) :=
  .ite fun _ => (setLaws_enterFallback s).trans (setLaws_sendActuator _)

theorem setLaws_addressClash (s : State) : SetLaws s (addressClash s) :=
  .ite fun _ => (setLaws_raise .clash s).trans (setLaws_enterSilent _)

/-! ### The share link's commands (R23, R28, R29) -/

theorem setLaws_errFrame (fl : Flight) (s : State) : SetLaws s (errFrame fl s) := by
  rw [errFrame_def]
  split
  · exact (setLaws_setLink (s.link.erred fl) s).trans (setLaws_transmitFailure _)
  · exact setLaws_setLink (s.link.erred fl) s

theorem setLaws_endFlight (fl : Flight) (line : List Bool) (s : State) : SetLaws s (endFlight fl line s) := by
  unfold endFlight
  cases fl.judge line with
  | lost => exact setLaws_setLink _ s
  | sent => exact setLaws_errFrame fl s
  | erred => exact setLaws_errFrame fl s

theorem setLaws_dropFrame (line : List Bool) (n : Nat) (s : State) : SetLaws s (dropFrame line n s) := by
  unfold dropFrame
  cases s.link.flight with
  | none => exact setLaws_setLink _ s
  | some fl => exact (setLaws_endFlight fl line s).trans (setLaws_setLink _ _)

theorem setLaws_takeFrame (f : Frame) (captureFirst : Bool) (s : State) : SetLaws s (takeFrame f captureFirst s) := by
  unfold takeFrame
  split
  · exact setLaws_addressClash s
  · exact setLaws_arrive f captureFirst s

theorem setLaws_validFrame (line : List Bool) (f : Frame) (captureFirst : Bool) (s : State) :
    SetLaws s (validFrame line f captureFirst s) := by
  have taken (t : State) (h : SetLaws s t) : SetLaws s (takeFrame f captureFirst (endReception 0 t)) :=
    h.trans ((setLaws_setLink _ t).trans (setLaws_takeFrame f captureFirst _))
  unfold validFrame
  cases s.link.flight with
  | none => exact taken s (.refl s)
  | some fl =>
    cases hj : fl.judge line with
    | sent => simp only [hj]; exact (setLaws_setLink _ s).trans (setLaws_setLink _ _)
    | lost => simp only [hj]; exact taken _ (setLaws_setLink _ s)
    | erred => simp only [hj]; exact taken _ (setLaws_errFrame fl s)

/-! ### The load-share unit's work at an expiry (R68 to R75) -/

theorem setLaws_lsRamp (fresh : Bool) (s : State) : SetLaws s (lsRamp fresh s) := by
  have ramps (k : Nat) (target : Option Int) : SetLaws s (s.setLs { s.ls with k := k, target := target }) :=
    setLaws_setLs _ s ⟨rfl, rfl, rfl, rfl, rfl, rfl⟩ ⟨rfl, rfl, rfl⟩
  unfold lsRamp
  split
  · exact ramps _ _
  · split
    · exact ramps _ _
    · split
      · exact .refl s
      · exact ramps _ _
  all_goals exact .refl s

/-- A clamp to a range about 0 lies in it. -/
theorem clampInt_within (limit x : Int) (h : 0 ≤ limit) :
    -limit ≤ clampInt x (-limit) limit ∧ clampInt x (-limit) limit ≤ limit := by
  unfold clampInt
  split
  · omega
  · split <;> omega

/-- The bias update clamps each bias to its limit (R69, R70). -/
theorem setLaws_lsBias (s : State) : SetLaws s (lsBias s) := by
  refine .ite fun hv => ⟨⟨fun _ low => ?_, fun h => ?_, fun h => outputsOk_of_same h ⟨rfl, rfl, rfl, rfl, rfl, rfl⟩,
    flagsKept_setLs _ s, .inl rfl⟩, fun h => h⟩
  · exact absurd (hv.symm.trans low) (by decide)
  · obtain ⟨hlimit, hvlimit, -⟩ := h
    obtain ⟨hlow, hhigh⟩ := clampInt_within s.ctl.cfg.biasLimit _ hlimit
    obtain ⟨hvlow, hvhigh⟩ := clampInt_within s.ctl.cfg.vBiasLimit _ hvlimit
    exact ⟨hlimit, hvlimit, hlow, hhigh, hvlow, hvhigh⟩

theorem setLaws_lsComplete (s : State) : SetLaws s (lsComplete s) := by
  refine .ite fun ⟨hu, _⟩ => setLaws_raiseUnit rfl rfl rfl (by rw [hu]; rfl) ⟨rfl, rfl, rfl⟩ fun h => ?_
  rw [outputsOk_iff] at h ⊢
  simp_all [OutputsByUnit, StartAtRest, TripAtRest]

/-- TRIP is asserted in RAMP-OUT only, with its timer (R75). -/
theorem setLaws_lsTrip (s : State) : SetLaws s (lsTrip s) := by
  refine .ite fun due => SetMoves.laws (.of_biases (flagsKept_setLs _ s) rfl rfl (.inl ⟨rfl, rfl, rfl⟩) (fun h => ?_) (.inl rfl))
    rfl rfl rfl rfl
  simp only [State.tripDue, Bool.and_eq_true, decide_eq_true_eq, Bool.not_eq_true'] at due
  rw [outputsOk_iff] at h ⊢
  simp_all [OutputsByUnit, StartAtRest]

theorem setLaws_loadShareWork (fresh : Bool) (s : State) : SetLaws s (loadShareWork fresh s) := by
  unfold loadShareWork
  split
  · split
    · exact (setLaws_deficitAbandons s).trans ((setLaws_lsRamp fresh _).trans ((setLaws_lsBias _).trans
        ((setLaws_lsComplete _).trans ((setLaws_lsTrip _).trans (setLaws_sendActuator _)))))
    · exact setLaws_sendActuator s
  · exact .refl s

/-! ### Generation on demand at an expiry (R85 to R94) -/

/-- Generation on demand's own counts leave START and its timer's running. -/
theorem setLaws_setDemand (d : Demand) (s : State) (hstart : d.start = s.demand.start)
    (hattempt : d.attempt.isSome = s.demand.attempt.isSome) : SetLaws s (s.setDemand d) :=
  (SetMoves.of_stands (flagsKept_setDemand d s) rfl hstart hattempt rfl rfl).laws rfl rfl rfl rfl

theorem setLaws_startRequest (s : State) : SetLaws s (startRequest s) := by
  refine .ite fun ⟨hu, hp⟩ => setLaws_raiseUnit rfl rfl rfl (by rw [hu]; rfl) ⟨rfl, rfl, rfl⟩ fun h => ?_
  rw [outputsOk_iff] at h ⊢
  simp_all [OutputsByUnit, StartAtRest, TripAtRest]

theorem setLaws_startDecision (s : State) : SetLaws s (startDecision s) :=
  (setLaws_setDemand _ s (by rfl) (by rfl)).trans (.ite fun _ => setLaws_startRequest _)

theorem setLaws_rampOutRequest (s : State) : SetLaws s (rampOutRequest s) := by
  refine .ite fun taken => ?_
  have hu : s.ls.unit = .online := by simp [State.rampOutTaken] at taken; exact taken.1
  refine setLaws_raiseUnit rfl rfl rfl (by rw [hu]; rfl) ⟨rfl, rfl, rfl⟩ fun h => ?_
  rw [outputsOk_iff] at h ⊢
  simp_all [OutputsByUnit, StartAtRest, TripAtRest]

theorem setLaws_stopWork (s : State) : SetLaws s (stopWork s) := by
  unfold stopWork
  split
  · exact (setLaws_setDemand _ s (by rfl) (by rfl)).trans (setLaws_rampOutRequest _)
  · exact setLaws_setDemand _ s rfl rfl

/-- A failed attempt releases START, and takes a STARTING set to OFFLINE (R91). -/
theorem setLaws_failAttempt (s : State) : SetLaws s (failAttempt s) := by
  have ended (hu : s.ls.unit ≠ .starting) : SetLaws s (s.setDemand { s.demand.endAttempt with lockout := true }) := by
    refine SetMoves.laws (.of_biases (.of_port rfl) rfl rfl (.inl ⟨rfl, rfl, rfl⟩) (fun h => ?_) (.inl rfl)) rfl rfl rfl rfl
    rw [outputsOk_iff] at h ⊢
    cases hunit : s.ls.unit <;> simp_all [OutputsByUnit, StartAtRest, TripAtRest, Demand.endAttempt]
  simp only [failAttempt]
  split
  · next hu =>
    rw [raise_ls, State.setDemand_ls] at hu
    have failed : SetLaws s (raise .unit ((raise .startFail (s.setDemand
        { s.demand.endAttempt with lockout := true })).setLs { s.ls with unit := .offline })) := by
      refine SetMoves.laws (.of_biases ?_ rfl rfl (.inl ⟨rfl, rfl, rfl⟩) (fun h => ?_) (.inr (by simp)))
        rfl rfl rfl (by rw [hu]; rfl)
      · exact ((flagsKept_setDemand _ s).trans (flagsKept_raise .startFail _)).trans
          ((flagsKept_setLs _ _).trans (flagsKept_raise .unit _))
      · rw [outputsOk_iff] at h ⊢
        simp_all [OutputsByUnit, StartAtRest, TripAtRest, Demand.endAttempt]
    exact failed
  · next hu => exact (ended hu).trans (setLaws_raise .startFail _)

theorem setLaws_attemptWork (s : State) : SetLaws s (attemptWork s) := by
  unfold attemptWork
  split
  · exact setLaws_failAttempt s
  · exact setLaws_setDemand _ s rfl (by simp)

theorem setLaws_beforeStop (s : State) : SetLaws s (beforeStop s) := by
  unfold beforeStop
  split
  · exact (setLaws_attemptWork s).trans (setLaws_startDecision _)
  · exact setLaws_attemptWork s

theorem setLaws_demandWork (r : ExpiryRun) : SetLaws r.state (demandWork r).state := by
  have before := setLaws_beforeStop r.state
  simp only [demandWork]
  split
  · split
    · exact before.trans (setLaws_stopWork _)
    · exact before
  · exact .refl _

/-! ### The whole expiry (R144) -/

theorem setLaws_capacityWork (tieChange : Bool) (s : State) : SetLaws s (capacityWork tieChange s) := by
  have zeroed : SetLaws s (if tieChange then zeroRestore s else s) := .ite fun _ => setLaws_setShed _ s
  exact zeroed.trans (.ite fun _ => setLaws_evaluateCapacity _)

theorem setLaws_ladderWork (s : State) : SetLaws s (ladderWork s) := by
  unfold ladderWork
  split
  · exact .refl s
  · split
    · exact .refl s
    · split
      · exact setLaws_setShed _ s
      · split
        · exact (setLaws_setShed _ s).trans (setLaws_ladderTest _)
        · exact setLaws_setShed _ s

theorem setLaws_restoreWork (s : State) : SetLaws s (restoreWork s) := by
  unfold restoreWork
  split
  · split
    · exact (setLaws_setShed _ s).trans (setLaws_raise .restoreStep _)
    · exact setLaws_setShed _ s
  · exact .refl s

theorem setLaws_shedWork (tieChange : Bool) (r : ExpiryRun) : SetLaws r.state (shedWork tieChange r).state := by
  have counted : SetLaws r.state (countSettle (rememberLoads r.state)) :=
    .of_eq (.of_port (by simp)) (by simp) (by simp) (by simp) (by simp)
  exact counted.trans ((setLaws_capacityWork tieChange _).trans ((setLaws_ladderWork _).trans (setLaws_restoreWork _)))

theorem setLaws_expiryPart (tieChange : Bool) (part : ExpiryPart) (r : ExpiryRun) :
    SetLaws r.state (expiryPart tieChange part r).state := by
  cases part with
  | loadShare => exact setLaws_loadShareWork _ r.state
  | demand => exact setLaws_demandWork r
  | shed => exact setLaws_shedWork tieChange r
  | link => exact .ite fun _ => setLaws_setLink _ r.state

/-- The counters of station control move nothing of the set, in whatever station state. -/
theorem setLaws_counters (listen fallback : Nat) (s : State) :
    SetLaws s (s.setCtl { s.ctl with listenCount := listen, fallbackCount := fallback }) where
  toSetMoves := setMoves_station s.ctl.station listen fallback s
  level h := h

theorem setLaws_testPoint (r : ExpiryRun) : SetLaws r.state (testPoint r).state := by
  cases h : r.state.ctl.station <;> simp only [testPoint, h]
  case listen =>
    split
    · exact setLaws_enterRun r.state
    · rw [← h]; exact setLaws_counters _ r.state.ctl.fallbackCount r.state
  case run =>
    split
    · exact setLaws_enterFallback r.state
    · exact .refl _
  case fallback =>
    split
    · split
      · exact setLaws_returnToRun r.state
      · rw [← h]; exact setLaws_counters r.state.ctl.listenCount _ r.state
    · rw [← h]; exact setLaws_counters r.state.ctl.listenCount _ r.state
  all_goals exact .refl _

/-- Up to the test point the limits of the biases stand (R152, R154). -/
theorem atTestPoint_limits (s : State) :
    (atTestPoint s).ctl.cfg.biasLimit = s.ctl.cfg.biasLimit ∧ (atTestPoint s).ctl.cfg.vBiasLimit = s.ctl.cfg.vBiasLimit := by
  have before : (atTestPoint s).ctl = (applyStaged (s.setCtl { s.ctl with shareTimer := some 0 })).ctl := by
    simp [atTestPoint]
  rw [before, applyStaged_ctl]
  split <;> exact ⟨rfl, rfl⟩

/-- Up to the test point nothing of the set has moved. -/
theorem setLaws_atTestPoint (s : State) : SetLaws s (atTestPoint s) where
  toSetMoves := .of_stands (.of_port (by simp)) (by simp) (by simp) (by simp) (atTestPoint_limits s).1 (atTestPoint_limits s).2
  level h := by
    obtain ⟨hstation, hstraps, -⟩ := atTestPoint_control s
    unfold BiasLevelOk
    rw [biasLevel_congr hstraps hstation (by simp) (by simp [atTestPoint, closePeriod]), atTestPoint_ls]
    exact h

theorem setLaws_expiryRun (order : List ExpiryPart) (s : State) : SetLaws s (expiryRun order s).state :=
  foldl_keeps _ (fun r => SetLaws s r.state) (fun r part h => h.trans (setLaws_expiryPart _ part r)) _ _
    ((setLaws_atTestPoint s).trans (setLaws_testPoint { state := atTestPoint s, events := [] }))

/-! ### Commands (R62) -/

/-- What a command may do to the set: it keeps the laws of biases and outputs, and where it changes the unit state it leaves UNIT
raised, but at a reset and at STANDBY entry (R62). -/
structure CommandLaws (s t : State) : Prop where
  bias : biasOk s → biasOk t
  range : biasOk s → biasRange s → biasRange t
  outputs : outputsOk s → outputsOk t
  unit : t.ls.unit ≠ s.ls.unit →
    flagOf t .unit = true ∨ t.ctl.station = .init ∨ (t.ctl.station = .standby ∧ s.ctl.station ≠ .standby)

theorem SetLaws.command {s t : State} (h : SetLaws s t) : CommandLaws s t where
  bias ok := ⟨h.level ok.1, h.held ok.2⟩
  range _ := h.range
  outputs := h.outputs
  unit changed := h.unit.elim (fun same => absurd same changed) .inl

/-- A command that leaves the load-share unit, generation on demand and what the biases go by; its flags may clear. -/
theorem CommandLaws.of_stands {s t : State} (hls : t.ls = s.ls) (hdemand : t.demand = s.demand)
    (hlevel : t.biasLevel = s.biasLevel) (hlimit : t.ctl.cfg.biasLimit = s.ctl.cfg.biasLimit)
    (hvlimit : t.ctl.cfg.vBiasLimit = s.ctl.cfg.vBiasLimit) : CommandLaws s t where
  bias ok := by unfold biasOk; rw [hls, hlevel]; exact ok
  range _ ok := by unfold biasRange; rw [hls, hlimit, hvlimit]; exact ok
  outputs ok := outputsOk_congr ok hls (by rw [hdemand]) (by rw [hdemand])
  unit changed := absurd (by rw [hls]) changed

/-- A command that leaves station control, intake, the load-share unit and generation on demand; its flags may clear. -/
theorem CommandLaws.of_eq {s t : State} (hctl : t.ctl = s.ctl) (hintake : t.intake = s.intake) (hls : t.ls = s.ls)
    (hdemand : t.demand = s.demand) : CommandLaws s t :=
  .of_stands hls hdemand (biasLevel_congr (by rw [hctl]) (by rw [hctl]) (by rw [hls]) (by rw [hintake])) (by rw [hctl])
    (by rw [hctl])

theorem CommandLaws.refl (s : State) : CommandLaws s s := .of_eq rfl rfl rfl rfl

/-- Replies and phases of the port come before and after a command's effect. -/
theorem CommandLaws.of_ports {s s' t t' : State} (h : CommandLaws s' t')
    (before : s'.ctl = s.ctl ∧ s'.intake = s.intake ∧ s'.ls = s.ls ∧ s'.demand = s.demand)
    (after : t.ctl = t'.ctl ∧ t.intake = t'.intake ∧ t.ls = t'.ls ∧ t.demand = t'.demand ∧
      t.port.changeWord = t'.port.changeWord) : CommandLaws s t := by
  obtain ⟨hctl, hintake, hls, hdemand⟩ := before
  obtain ⟨kctl, kintake, kls, kdemand, kword⟩ := after
  have first : CommandLaws s s' := .of_eq hctl hintake hls hdemand
  have last : CommandLaws t' t := .of_eq kctl kintake kls kdemand
  refine ⟨last.bias ∘ h.bias ∘ first.bias, fun ok r => ?_, last.outputs ∘ h.outputs ∘ first.outputs, fun changed => ?_⟩
  · exact last.range (h.bias (first.bias ok)) (h.range (first.bias ok) (first.range ok r))
  · rw [kctl, ← hctl, show flagOf t .unit = flagOf t' .unit by rw [flagOf, kword]; rfl]
    exact h.unit (by rw [← kls, hls]; exact changed)

theorem commandLaws_resetStation (pins : Straps) (cut : StoreCut) (s : State) :
    CommandLaws s (resetStation pins cut s) := by
  obtain ⟨hctl, -, -, -, hdemand, -⟩ := resetStation_blocks pins cut s
  refine ⟨fun _ => ⟨?_, ?_⟩, fun _ _ => ?_, fun _ => ?_, fun _ => .inr (.inl (by rw [hctl]; rfl))⟩
  · rw [biasLevel_of_not_run (by rw [hctl]; simp [Control.reset]), resetStation_ls]
    rfl
  · rw [resetStation_ls]
    exact fun _ => ⟨rfl, rfl⟩
  · unfold biasRange
    rw [hctl, resetStation_ls]
    simp [Control.reset, Settings.faultSet, LoadShare.reset]
  · unfold outputsOk
    rw [hdemand, resetStation_ls]
    simp [LoadShare.reset, Demand.reset]

/-- The limits that INIT takes are not negative (R142, R143, R177). -/
theorem takenConfig_limits (c : Control) : 0 ≤ c.takenConfig.biasLimit ∧ 0 ≤ c.takenConfig.vBiasLimit := by
  unfold Control.takenConfig
  split
  · simp [Settings.faultSet]
  · simp [parseSettings]

/-- The load-share unit's record is all that the end of INIT changes of the set; the biases are 0 there (R80, R142). -/
theorem commandLaws_endInit (s : State) (hs : s.ctl.station = .init) : CommandLaws s (endInit s) := by
  have sent := setLaws_sendActuator s
  have hctl : (endInit s).ctl = s.ctl.endInit := by simp [endInit]
  have hls := endInit_ls s
  have low : s.biasLevel = false := biasLevel_of_not_run (by rw [hs]; decide)
  have low' : (endInit s).biasLevel = false := biasLevel_of_not_run (by rw [hctl]; simp [Control.endInit])
  have zero (ok : biasOk s) : (endInit s).ls.speedBias = 0 ∧ (endInit s).ls.voltBias = 0 := by
    rw [hls]
    exact sent.held ok.2 (by rw [sendActuator_biasValid, ok.1, low])
  refine ⟨fun ok => ⟨?_, fun _ => zero ok⟩, fun ok _ => ?_, fun ok => ?_, fun changed => ?_⟩
  · rw [low', hls, sendActuator_biasValid, ok.1, low]
  · obtain ⟨hspeed, hvolt⟩ := zero ok
    obtain ⟨hlimit, hvlimit⟩ := takenConfig_limits s.ctl
    unfold biasRange
    rw [hspeed, hvolt, hctl]
    simp only [Control.endInit]
    omega
  · exact outputsOk_congr (sent.outputs ok) hls (by simp) (by simp)
  · refine absurd ?_ changed
    rw [hls, sendActuator]
    split <;> rfl

/-- STANDBY entry takes the set to OFFLINE, or leaves it TRIPPED with its STOP, with no bias (R82, R95). -/
theorem commandLaws_enterStandbyState (s : State) (hs : s.ctl.station ≠ .standby) : CommandLaws s (enterStandbyState s) := by
  have hctl := enterStandbyState_ctl s
  refine ⟨fun _ => ⟨?_, ?_⟩, fun _ ok => ?_, fun ok => ?_, fun _ => .inr (.inr ⟨by rw [hctl]; rfl, hs⟩)⟩
  · rw [biasLevel_of_not_run (by rw [hctl]; simp [Control.standby]), enterStandbyState_ls]
    rfl
  · rw [enterStandbyState_ls]
    exact fun _ => ⟨rfl, rfl⟩
  · obtain ⟨hlimit, hvlimit, -⟩ := ok
    unfold biasRange
    rw [hctl, enterStandbyState_ls]
    simp only [Control.standby, LoadShare.standby, LoadShare.dropBias]
    omega
  · unfold outputsOk at ok ⊢
    rw [enterStandbyState_demand, enterStandbyState_ls]
    cases hu : s.ls.unit <;>
      simp_all [LoadShare.standby, LoadShare.clearRamp, LoadShare.dropBias, Demand.standby, Demand.endAttempt]

/-- RESUME leaves the set as it stands in STANDBY: BIAS-VALID is not asserted in LISTEN either (R64, R146). -/
theorem commandLaws_enterListen (s : State) (hs : s.ctl.station = .standby) : CommandLaws s (enterListen s) := by
  have hctl : (enterListen s).ctl = { s.ctl with
      station := .listen, writeEnable := false, listenCount := 0, shareTimer := some 0 } := by simp [enterListen]
  have moved : SetMoves s (enterListen s) :=
    .of_stands (.of_port (by simp)) (by simp) (by simp [enterListen, zeroNeedTimers]) (by simp [enterListen, zeroNeedTimers])
      (by rw [hctl]) (by rw [hctl])
  refine SetLaws.command ⟨moved, fun h => ?_⟩
  unfold BiasLevelOk at h ⊢
  rw [biasLevel_of_not_run (by rw [hs]; decide)] at h
  rw [enterListen_ls, h, biasLevel_of_not_run (by rw [hctl]; simp)]

/-- CLEAR-TRIP takes a TRIPPED set to OFFLINE with STOP released (R61). -/
theorem setLaws_clearTripEffect (s : State) : SetLaws s (clearTripEffect s) := by
  have cleared := setLaws_setDemand { s.demand with lockout := false } s rfl rfl
  refine .ite fun _ => ?_
  simp only
  split
  · next hu =>
    have released : SetLaws s (raise .unit ((s.setDemand { s.demand with lockout := false }).setLs s.ls.tripCleared)) := by
      refine setLaws_raiseUnit rfl rfl rfl (by rw [← State.setDemand_ls s { s.demand with lockout := false }, hu]; rfl)
        ⟨rfl, rfl, rfl⟩ fun h => ?_
      rw [State.setDemand_ls] at hu
      rw [outputsOk_iff] at h ⊢
      simp_all [OutputsByUnit, StartAtRest, TripAtRest, LoadShare.tripCleared]
    exact released.trans (.ite fun _ => setLaws_setSettlesClosed _)
  · exact cleared

/-- RESUME is accepted in STANDBY only (R146). -/
theorem standby_of_resume_accepted (code : Byte) (fields : List Byte) (s : State) (h : judge code fields s = .accepted)
    (hc : Service.ofCode code = some .resume) : s.ctl.station = .standby := by
  by_contra hs
  unfold judge at h
  split at h
  · exact absurd h (by decide)
  · simp only [hc, Service.refusal, firstRefusal, State.inStandby, hs, decide_false, Bool.not_false, if_true] at h
    split at h <;> exact absurd h (by decide)

/-- An accepted command's effect. -/
theorem commandLaws_effect (c : Service) (code : Byte) (fields : List Byte) (s : State) (h : judge code fields s = .accepted)
    (hc : Service.ofCode code = some c) : CommandLaws s (c.effect fields s) := by
  cases c with
  | enterStandby =>
    show CommandLaws s (standbyEffect s)
    unfold standbyEffect
    split
    · next ha => exact commandLaws_enterStandbyState s fun hs => by rw [hs] at ha; exact absurd ha (by decide)
    · exact .refl s
  | resume => exact commandLaws_enterListen s (standby_of_resume_accepted code fields s h hc)
  | stage =>
    show CommandLaws s (stageEffect fields s)
    unfold stageEffect
    split
    · exact .refl s
    · exact .of_stands (by simp) (by simp) (biasLevel_congr (by simp) (by simp) (by simp) (by simp)) (by simp) (by simp)
  | clearTrip => exact (setLaws_clearTripEffect s).command
  | forceCapture => exact (setLaws_offerTrigger .forced s).command
  | writeEnable => exact .of_stands rfl rfl rfl rfl rfl
  | writeConfig => exact .of_stands rfl rfl rfl rfl rfl
  | lockConfig => exact .of_stands rfl rfl rfl rfl rfl
  | hold => exact .of_stands rfl rfl rfl rfl rfl
  | apply => exact .of_stands rfl rfl rfl rfl rfl
  | _ => exact .of_eq rfl rfl rfl rfl

theorem commandLaws_endSelect (s : State) : CommandLaws s (endSelect s) := by
  unfold endSelect
  split
  · exact (commandLaws_resetStation s.ctl.pins .before s).of_ports ⟨rfl, rfl, rfl, rfl⟩ ⟨rfl, rfl, rfl, rfl, rfl⟩
  · exact .of_eq rfl rfl rfl rfl

/-- A command whose select period a RESTART's reset ends is refused BUSY; any other meets the set as it stands (R162, R168). -/
theorem commandLaws_serve (code : Byte) (fields : List Byte) (s : State) : CommandLaws s (serve code fields s) := by
  have refused : CommandLaws s (endSelect s) := commandLaws_endSelect s
  have kept {t : State} (h : CommandLaws s t) (r : Result) (content : List Byte) (kind : ReplyKind) :
      CommandLaws s (answerWith r content kind t) := h.of_ports ⟨rfl, rfl, rfl, rfl⟩ ⟨rfl, rfl, rfl, rfl, rfl⟩
  unfold serve answerCommand
  split
  · next accepted =>
    split
    · exact refused
    · next c hc =>
      refine kept ?_ _ _ _
      have effect := commandLaws_effect c code fields (endSelect s) accepted hc
      by_cases hr : s.port.phase = .replying .restart
      · rw [endSelect, if_pos hr] at accepted
        have busy : judge code fields ((resetStation s.ctl.pins .before s).setPort
            { (resetStation s.ctl.pins .before s).port with phase := .waiting }) = .busy :=
          if_pos (by rw [State.setPort_ctl, (resetStation_blocks s.ctl.pins .before s).1]; rfl)
        exact absurd (busy.symm.trans accepted) (by decide)
      · have waits := endSelect_eq s hr
        exact effect.of_ports (by rw [waits]; exact ⟨rfl, rfl, rfl, rfl⟩) ⟨rfl, rfl, rfl, rfl, rfl⟩
  · exact kept refused _ _ _

/-! ### Every command and every step -/

theorem commandLaws_sampleArrival (bytes : List Byte) (order : List SamplePart) (s : State) :
    Machine.Answers (CommandLaws s) (execSampleArrival bytes order s) := by
  unfold execSampleArrival
  split
  · cases parseSample s.ctl.straps.role bytes with
    | none => exact answers_next (.refl s)
    | some x => exact answers_next (setLaws_acceptSample x order s).command
  · exact answers_next (.refl s)

/-- FAULT falls BIAS-VALID before the tie state is derived (R7, R44, R64). -/
theorem commandLaws_measureTimerFault (s : State) : Machine.Answers (CommandLaws s) (execMeasureTimerFault s) :=
  answers_ite (.refl s) fun _ =>
    ((setLaws_refreshBiasNow ((setMoves_setIntake _ s).trans
      ((setLaws_raise .measure _).trans (setLaws_raiseIf _ .engineReady _)).toSetMoves)).trans (setLaws_deriveTieNow _)).command

theorem commandLaws_transitTimeout (b : Breaker) (s : State) :
    Machine.Answers (CommandLaws s) (execTransitTimeout b s) := by
  cases b with
  | set => exact answers_ite (.refl s) fun _ => .of_stands rfl rfl rfl rfl rfl
  | group g => exact answers_ite (.refl s) fun _ => .of_stands rfl rfl rfl rfl rfl
  | tie =>
    have faulted : SetLaws s (raise .breaker (s.setIntake { s.intake with tieBreaker := s.intake.tieBreaker.timedOut })) :=
      ⟨(setMoves_setIntake _ s).trans (setLaws_raise .breaker _).toSetMoves, fun h => h⟩
    exact answers_ite (.refl s) fun _ => (faulted.trans (setLaws_deriveTieNow _)).command

/-- TRIP's end in RAMP-OUT leaves the trip-failed mark (R77). -/
theorem commandLaws_tripTimeout (s : State) : Machine.Answers (CommandLaws s) (execTripTimeout s) := by
  refine answers_ite (.refl s) fun ⟨ht, _⟩ => SetLaws.command (SetMoves.laws (.of_biases ((flagsKept_setLs _ s).trans
    (flagsKept_raise .breaker _)) rfl rfl (.inl ⟨rfl, rfl, rfl⟩) (fun h => ?_) (.inl rfl)) rfl rfl rfl rfl)
  have ramping := rampOut_of_trip h ht
  rw [outputsOk_iff] at h ⊢
  simp_all [OutputsByUnit, StartAtRest, LoadShare.tripTimedOut]

/-- A stop pulse runs in OFFLINE only, and STOP goes with it (R79). -/
theorem commandLaws_stopPulseEnd (s : State) : Machine.Answers (CommandLaws s) (execStopPulseEnd s) := by
  refine answers_ite (.refl s) fun hp => SetLaws.command (SetMoves.laws (.of_biases (flagsKept_setLs _ s) rfl rfl
    (.inl ⟨rfl, rfl, rfl⟩) (fun h => ?_) (.inl rfl)) rfl rfl rfl rfl)
  have off := offline_of_pulse h hp
  rw [outputsOk_iff] at h ⊢
  simp_all [OutputsByUnit, StartAtRest, TripAtRest]

theorem commandLaws_namedExpiry (e : ExpiryEvent) (order : List ExpiryPart) (s : State) :
    CommandLaws s (namedExpiry e order s) :=
  (SetLaws.ite fun _ => setLaws_expiryRun order s).command

theorem commandLaws_frameStart (s : State) : Machine.Answers (CommandLaws s) (execFrameStart s) := by
  unfold execFrameStart
  split
  · cases s.offer with
    | none => exact answers_next (.refl s)
    | some x => exact answers_next (.of_eq rfl rfl rfl rfl)
  · exact answers_next (.refl s)

theorem commandLaws_arbitrationLoss (s : State) : Machine.Answers (CommandLaws s) (execArbitrationLoss s) := by
  unfold execArbitrationLoss
  cases s.link.flight with
  | none => exact answers_next (.refl s)
  | some fl => exact answers_next (.of_eq rfl rfl rfl rfl)

theorem commandLaws_transmitError (s : State) : Machine.Answers (CommandLaws s) (execTransmitError s) := by
  intro t e
  rcases execTransmitError_cases s t e with ⟨-, rfl⟩ | ⟨fl, -, ⟨-, rfl⟩ | ⟨-, rfl, -⟩⟩
  · exact .refl _
  · exact (setLaws_errFrame fl s).command
  · exact ((setLaws_errFrame fl s).trans (setLaws_setLink _ _)).command

theorem commandLaws_frameReceived (line : List Bool) (captureFirst : Bool) (s : State) :
    Machine.Answers (CommandLaws s) (execFrameReceived line captureFirst s) := by
  unfold execFrameReceived
  split
  · cases receive line with
    | incomplete => exact answers_next (.refl s)
    | dropped n => exact answers_next (setLaws_dropFrame line n s).command
    | valid f => exact answers_next (setLaws_validFrame line f captureFirst s).command
  · exact answers_next (.of_eq rfl rfl rfl rfl)

theorem commandLaws_statusReadClear (s : State) : Machine.Answers (CommandLaws s) (execStatusReadClear s) := by
  unfold execStatusReadClear
  split
  · cases s.ctl.cfg.ackMode <;> exact answers_next (.of_eq rfl rfl rfl rfl)
  · exact answers_next (.refl s)

/-- A store operation's completion leaves the working configuration (R159). -/
theorem storeDone_cfg (c : Control) : c.storeDone.cfg = c.cfg := by
  unfold Control.storeDone; split <;> rfl

theorem commandLaws_storeCompletion (s : State) : Machine.Answers (CommandLaws s) (execStoreCompletion s) := by
  unfold execStoreCompletion
  split
  · exact answers_next (.refl s)
  · refine answers_next (.of_stands rfl rfl (biasLevel_congr (storeDone_straps s.ctl) (storeDone_station s.ctl) rfl rfl) ?_ ?_)
    · exact congrArg Settings.biasLimit (storeDone_cfg s.ctl)
    · exact congrArg Settings.vBiasLimit (storeDone_cfg s.ctl)

/-- Every command keeps the set's laws. -/
theorem exec_commandLaws (c : Instr) (s : State) : Machine.Answers (CommandLaws s) (exec c s) := by
  have stands {t : State} (h : t.ctl = s.ctl ∧ t.intake = s.intake ∧ t.ls = s.ls ∧ t.demand = s.demand) : CommandLaws s t :=
    let ⟨hctl, hintake, hls, hdemand⟩ := h
    .of_eq hctl hintake hls hdemand
  cases c with
  | reset pins cut => exact answers_next (commandLaws_resetStation pins cut s)
  | restartReset pins => exact answers_ite (.refl s) fun _ => commandLaws_resetStation pins .before s
  | endOfInit => exact answers_ite (.refl s) fun hs => commandLaws_endInit s hs
  | sampleArrival bytes order => exact commandLaws_sampleArrival bytes order s
  | measureTimerHeld =>
    refine answers_ite (.refl s) fun ⟨_, hm⟩ => .of_stands rfl rfl ?_ rfl rfl
    unfold State.biasLevel
    rw [hm]
    rfl
  | measureTimerFault => exact commandLaws_measureTimerFault s
  | transitTimeout b => exact commandLaws_transitTimeout b s
  | shareTimerExpiry order => exact answers_next (SetLaws.ite fun _ => setLaws_expiryRun order s).command
  | listenEnd order => exact answers_next (commandLaws_namedExpiry _ order s)
  | fallbackExit order => exact answers_next (commandLaws_namedExpiry _ order s)
  | startAttemptTimeout order => exact answers_next (commandLaws_namedExpiry _ order s)
  | stopNeedExpiry order => exact answers_next (commandLaws_namedExpiry _ order s)
  | settleTimerExpiry order => exact answers_next (commandLaws_namedExpiry _ order s)
  | ladderStep order => exact answers_next (commandLaws_namedExpiry _ order s)
  | restorationStep order => exact answers_next (commandLaws_namedExpiry _ order s)
  | confirmTimeout g => exact answers_ite (.refl s) fun _ => stands ⟨rfl, rfl, rfl, rfl⟩
  | tripTimeout => exact commandLaws_tripTimeout s
  | stopPulseEnd => exact commandLaws_stopPulseEnd s
  | timeTagWrap => exact answers_ite (.refl s) fun _ => stands ⟨rfl, rfl, rfl, rfl⟩
  | attentionPulseEnd => exact answers_ite (.refl s) fun _ => stands ⟨rfl, rfl, rfl, rfl⟩
  | lineIdle => exact answers_ite (.refl s) fun _ => stands ⟨rfl, rfl, rfl, rfl⟩
  | lineBusy => exact answers_next (stands ⟨rfl, rfl, rfl, rfl⟩)
  | frameStart => exact commandLaws_frameStart s
  | arbitrationLoss => exact commandLaws_arbitrationLoss s
  | transmitError => exact commandLaws_transmitError s
  | frameReceived line captureFirst => exact commandLaws_frameReceived line captureFirst s
  | readoutComplete => exact answers_ite (.refl s) fun _ => stands (by simp)
  | statusReadClear => exact commandLaws_statusReadClear s
  | storeCompletion => exact commandLaws_storeCompletion s
  | selectDeassert => exact answers_next (commandLaws_endSelect s)
  | _ => exact answers_next (commandLaws_serve _ _ s)

/-- A microsecond counts the running timers and changes nothing else of the set. -/
theorem commandLaws_advance (s : State) : CommandLaws s (advance s) where
  bias ok := ok
  range _ ok := ok
  outputs ok := by
    have ticked := outputsOk_of_same (x := s.ls.tick) ok ⟨rfl, rfl, by simp [LoadShare.tick, tickTimer], rfl,
      by simp [LoadShare.tick, tickTimer], rfl⟩
    exact outputsOk_congr ticked rfl rfl rfl
  unit changed := absurd rfl changed

theorem commandLaws_idle (s : State) : CommandLaws s (idle s) := by
  rw [idle_eq]
  split
  · exact commandLaws_advance s
  · exact (commandLaws_advance s).of_ports ⟨rfl, rfl, rfl, rfl⟩ ⟨rfl, rfl, rfl, rfl, rfl⟩

/-- Every step keeps the set's laws. -/
theorem step_commandLaws (s t : State) (e : step s = .next t) : CommandLaws s t := by
  unfold step at e
  cases hq : s.pending with
  | nil => rw [hq] at e; exact answers_next (commandLaws_idle s) t e
  | cons c rest =>
    rw [hq] at e
    exact (exec_commandLaws c { s with pending := rest } t e).of_ports ⟨rfl, rfl, rfl, rfl⟩ ⟨rfl, rfl, rfl, rfl, rfl⟩

/-- Settles O6: BIAS-VALID follows its conditions wherever they move, with the biases dropped at its fall, and only the clamped bias
update moves them else. -/
theorem stepKeepsBiasLaw : Obligations.StepKeepsBiasLaw := by
  unfold Obligations.StepKeepsBiasLaw
  intro s t ok e
  have laws := step_commandLaws s t e
  exact ⟨laws.bias ok, laws.range ok⟩

/-- Settles O7, by the outputs' law through each command and through a microsecond with none waiting. -/
theorem stepKeepsGensetOutputs : Obligations.StepKeepsGensetOutputs := by
  unfold Obligations.StepKeepsGensetOutputs
  exact fun s t ok e => (step_commandLaws s t e).outputs ok

/-- Settles O14: no work of a command changes the unit state without raising UNIT or clears a flag after it, but a reset and STANDBY
entry. -/
theorem unitChangeRaisesUnit : Obligations.UnitChangeRaisesUnit := by
  unfold Obligations.UnitChangeRaisesUnit
  exact fun c s t e => (exec_commandLaws c s t e).unit

end Machine
end Sys2Proof

/-! Proofs. The set breaker opening on a running set, CLEAR-TRIP, and the timers that end in real time (R59 to R62, R77, R79, R123,
R173). -/

namespace Sys2Proof
namespace Machine

open Safety

/-! ### A running set up to its trip (R59, R78) -/

/-- The set is on the bus in `t` as in `s`, and TRIP is not newly asserted. -/
structure KeepsRunning (s t : State) : Prop where
  onBus : t.ls.unit.onBus = s.ls.unit.onBus
  trip : s.ls.trip = false → t.ls.trip = false

theorem KeepsRunning.of_ls {s t : State} (h : t.ls = s.ls) : KeepsRunning s t := by
  constructor <;> rw [h]
  exact id

theorem KeepsRunning.refl (s : State) : KeepsRunning s s := .of_ls rfl

theorem KeepsRunning.trans {s t u : State} (h : KeepsRunning s t) (k : KeepsRunning t u) : KeepsRunning s u :=
  ⟨k.onBus.trans h.onBus, k.trip ∘ h.trip⟩

theorem KeepsRunning.ite {s t : State} {c : Prop} [Decidable c] (h : c → KeepsRunning s t) :
    KeepsRunning s (if c then t else s) := by
  split
  · next hc => exact h hc
  · exact .refl s

/-- An abandoned ramp-out is ONLINE with TRIP released (R78). -/
theorem keepsRunning_abandonRampOut (s : State) : KeepsRunning s (abandonRampOut s) :=
  .ite fun hu => ⟨by rw [hu]; rfl, fun _ => rfl⟩

theorem keepsRunning_increaseCut (cut : Nat) (cause : Option ShedCause) (s : State) :
    KeepsRunning s (increaseCut cut cause s) := by
  have raised : KeepsRunning s (offerTrigger .shedStep (raise .shedStep (s.setShed (s.shedRaised cut)))) := .of_ls (by simp)
  have abandoned := raised.trans
    (.ite (c := (offerTrigger .shedStep (raise .shedStep (s.setShed (s.shedRaised cut)))).isGenset = true)
      fun _ => keepsRunning_abandonRampOut _)
  cases cause with
  | none => exact abandoned
  | some c => exact abandoned.trans (.of_ls (queueAlert_ls _ _))

theorem keepsRunning_evaluateInRun (s : State) : KeepsRunning s (evaluateInRun s) :=
  .ite fun _ => .ite fun _ => keepsRunning_increaseCut _ _ s

theorem keepsRunning_deriveTieNow (s : State) : KeepsRunning s (deriveTieNow s) := by
  unfold deriveTieNow
  split
  · exact .refl s
  · have formed : KeepsRunning s (formSums (s.setView { s.view with tieClosed := s.derivedTie })) := .of_ls rfl
    have zeroed (t : State) : KeepsRunning t (zeroRestore t) := .of_ls rfl
    have abandons (t : State) : KeepsRunning t (deficitAbandons t) := .ite fun _ => keepsRunning_abandonRampOut t
    exact formed.trans ((abandons _).trans ((zeroed _).trans (keepsRunning_evaluateInRun _)))

theorem keepsRunning_handUfSet (s : State) : KeepsRunning s (handUfSet s) := by
  have tested : KeepsRunning s (ladderTest s) := .ite fun _ => keepsRunning_increaseCut _ _ s
  unfold handUfSet
  split
  · exact tested.trans (.of_ls rfl)
  · exact keepsRunning_abandonRampOut s

/-- Only the breakers' news take a running set off the bus in a sample. -/
theorem keepsRunning_handPart (n : SampleNews) (part : SamplePart) (s : State) (h : part ≠ .breakers) :
    KeepsRunning s (handPart n part s) := by
  cases part with
  | breakers => exact absurd rfl h
  | tie =>
    have raised : KeepsRunning s (raiseIf n.tieBreaker.any .breaker s) := .of_ls (by simp)
    exact raised.trans (.ite fun _ => keepsRunning_deriveTieNow _)
  | ufShed => exact .ite fun _ => keepsRunning_handUfSet s
  | ufTrigger => exact .ite fun _ => .of_ls (by simp)
  | dead => exact .ite fun _ => .ite fun _ => keepsRunning_increaseCut _ _ s
  | row => exact .of_ls (by simp [handPart])

/-- BIAS-VALID following its conditions leaves a running set running (R64, R78). -/
theorem keepsRunning_refreshBiasNow (s : State) : KeepsRunning s (refreshBiasNow s) := by
  have sent (t : State) : KeepsRunning t (sendActuator t) := .ite fun _ => ⟨rfl, id⟩
  have followed : KeepsRunning s (refreshBias s) := by
    unfold refreshBias
    split
    · exact .trans (t := s.setLs s.ls.dropBias) ⟨rfl, id⟩ (keepsRunning_abandonRampOut _)
    · exact ⟨rfl, id⟩
  unfold refreshBiasNow
  split
  · exact followed.trans (sent _)
  · exact followed

theorem keepsRunning_takeSample (x : Sample) (s : State) : KeepsRunning s (takeSample x s) :=
  .trans (.of_ls (by simp)) (keepsRunning_refreshBiasNow _)

/-- A genset station's hand-off other than the breakers' raises no alert where the sample ends no FAULT (R11, R44). -/
theorem handPart_link_genset (x : Sample) (s t : State) (q : SamplePart) (hq : q ≠ .breakers) (hr : s.ctl.straps.role = .genset)
    (hm : s.intake.measure ≠ .fault) (hctl : t.ctl = s.ctl) : (handPart (s.sampleNews x) q t).link = t.link := by
  have hf : t.isFeeder = false := isFeeder_of_genset t (by rw [hctl]; exact hr)
  cases q with
  | breakers => exact absurd rfl hq
  | tie =>
    have hm' : ¬ (s.sampleNews x).measureBefore = .fault := hm
    simp [handPart, sampleNews_tie_genset x s hr, hm']
  | ufShed => simp only [handPart, handUfSet, hf]; split <;> simp
  | ufTrigger => simp only [handPart]; split <;> simp
  | dead => simp [handPart, deadEntry, hf]
  | row => simp [handPart]

/-! ### The trip (R59, R60) -/

/-- The set is TRIPPED with STOP asserted, TRIP not, no bias in force and UNIT raised (R59). -/
def SetTripped (t : State) : Prop :=
  t.ls.unit = .tripped ∧ t.ls.stop = true ∧ t.ls.stopTimer = none ∧ t.ls.trip = false ∧ t.ls.speedBias = 0 ∧
  t.ls.voltBias = 0 ∧ t.ls.biasValid = false ∧ flagOf t .unit = true

theorem SetTripped.of_kept {s t : State} (h : SetTripped s) (hls : t.ls = s.ls) (hflags : FlagsKept s t) : SetTripped t := by
  obtain ⟨hunit, hstop, htimer, htrip, hspeed, hvolt, hvalid, hflag⟩ := h
  unfold SetTripped
  rw [hls]
  exact ⟨hunit, hstop, htimer, htrip, hspeed, hvolt, hvalid, hflags _ hflag⟩

theorem tripSet_tripped (s : State) (ht : s.ls.trip = false) : SetTripped (tripSet s) := by
  have tripped : SetTripped (raise .unit ((queueAlert (.trip s.ctl.cfg.pRated s.intake.means.p) s).setLs s.ls.tripNow)) :=
    ⟨rfl, rfl, rfl, ht, rfl, rfl, rfl, by simp⟩
  have sent : SetTripped (sendActuator
      (raise .unit ((queueAlert (.trip s.ctl.cfg.pRated s.intake.means.p) s).setLs s.ls.tripNow))) := by
    obtain ⟨hunit, hstop, htimer, htrip, hspeed, hvolt, hvalid, hflag⟩ := tripped
    unfold sendActuator
    split <;> exact ⟨hunit, hstop, htimer, htrip, hspeed, hvolt, hvalid, hflag⟩
  rw [tripSet, raise_sendActuator]
  exact sent.of_kept (by simp) (follows_offerTrigger _ _).flags

/-- With room in the queue a trip in RUN or FALLBACK queues a TRIP ALERT with the rated kW and the P mean (R25, R60). -/
theorem tripSet_alerts (s : State) (ht : s.ctl.station.transmits = true) (hroom : s.link.alerts.length < 4) :
    (tripSet s).link.alerts = s.link.alerts ++ [.trip s.ctl.cfg.pRated s.intake.means.p] := by
  rw [tripSet, offerTrigger_link, raise_link, sendActuator_link, State.setLs_link, queueAlert, if_pos ht, if_pos hroom]
  rfl

section Trip

variable (x : Sample) (order : List SamplePart) (s : State) (hr : s.ctl.straps.role = .genset)
  (hpair : x.setAux = { a := false, b := true }) (hsettles : s.intake.setBreaker.settled ≠ .opened)
  (hu : s.ls.unit.onBus = true) (ht : s.ls.trip = false)
include hr hpair hsettles

/-- The breakers' hand-off of a sample in which the set breaker settles OPEN on a set running with TRIP deasserted is a trip. -/
theorem handBreakers_trips (t : State) (hu : t.ls.unit.onBus = true) (ht : t.ls.trip = false) :
    handPart (s.sampleNews x) .breakers t =
      handGroupBreakers (s.sampleNews x).groupBreakers (tripSet (raiseIf true .breaker t)) := by
  have news : handSetBreaker (s.sampleNews x).setBreaker t = setSettlesOpen (raiseIf true .breaker t) := by
    rw [sampleNews_set x s hr, hpair]
    simp [handSetBreaker, AuxPair.reading, BreakerView.news, BreakerNews.any, hsettles]
  rw [handPart, news, setSettlesOpen, if_pos (by simpa using hu), if_neg (by simp [ht])]

include hu ht

theorem acceptSample_trips : SetTripped (acceptSample x order s) := by
  have taken := keepsRunning_takeSample x s
  refine acceptSample_through x order s .breakers (fun t => t.ls.unit.onBus = true ∧ t.ls.trip = false) SetTripped
    (fun t q hq _ ⟨hbus, hoff⟩ => ?_) (fun t _ _ ⟨hbus, hoff⟩ => ?_) (fun t q hq _ hJ => ?_)
    ⟨taken.onBus.trans hu, taken.trip ht⟩
  · have kept := keepsRunning_handPart (s.sampleNews x) q t hq
    exact ⟨kept.onBus.trans hbus, kept.trip hoff⟩
  · rw [handBreakers_trips x s hr hpair hsettles t hbus hoff]
    exact (tripSet_tripped _ (by simpa using hoff)).of_kept (by simp) (flagsKept_handGroupBreakers _ _)
  · have follows := follows_handPart (s.sampleNews x) q t hq
    exact hJ.of_kept (follows.unit (by rw [hJ.1]; decide)) follows.flags

/-- The TRIP ALERT is the only alert of the sample (R60). -/
theorem acceptSample_tripAlert (hm : s.intake.measure ≠ .fault) (hx : s.ctl.station.transmits = true)
    (hroom : s.link.alerts.length < 4) :
    (acceptSample x order s).link.alerts = s.link.alerts ++ [.trip s.ctl.cfg.pRated s.intake.means.p] := by
  have taken := keepsRunning_takeSample x s
  refine acceptSample_through x order s .breakers
    (fun t => t.ls.unit.onBus = true ∧ t.ls.trip = false ∧ t.link = s.link)
    (fun t => t.link.alerts = s.link.alerts ++ [.trip s.ctl.cfg.pRated s.intake.means.p])
    (fun t q hq hctl ⟨hbus, hoff, hlink⟩ => ?_) (fun t hctl hintake ⟨hbus, hoff, hlink⟩ => ?_)
    (fun t q hq hctl hJ => ?_) ⟨taken.onBus.trans hu, taken.trip ht, by simp⟩
  · have kept := keepsRunning_handPart (s.sampleNews x) q t hq
    exact ⟨kept.onBus.trans hbus, kept.trip hoff, (handPart_link_genset x s t q hq hr hm hctl).trans hlink⟩
  · rw [handBreakers_trips x s hr hpair hsettles t hbus hoff, handGroupBreakers_link,
      tripSet_alerts _ (by simpa [hctl] using hx) (by simpa [hlink] using hroom)]
    simp [hctl, hintake, hlink, State.intakeAfter]
  · rw [handPart_link_genset x s t q hq hr hm hctl]
    exact hJ

end Trip

/-- Settles O23: the set runs until the breakers' news trip it, in whatever order the hand-offs are taken. -/
theorem openBreakerTripsSet : Obligations.OpenBreakerTripsSet := by
  unfold Obligations.OpenBreakerTripsSet
  intro bytes order s x ha hr hx hpair hsettles hu ht
  refine ⟨_, exec_sampleArrival bytes order s x ha (by rw [hr]; exact hx), ?_⟩
  obtain ⟨hunit, hstop, htimer, htrip, hspeed, hvolt, hvalid, hflag⟩ := acceptSample_trips x order s hr hpair hsettles hu ht
  exact ⟨hunit, hstop, htimer, htrip, hspeed, hvolt, hvalid, hflag,
    acceptSample_tripAlert x order s hr hpair hsettles hu ht⟩

/-! ### CLEAR-TRIP (R61, R62, R168) -/

/-- CLEAR-TRIP is accepted outside INIT, in a select period of its own (R162, R168). -/
theorem exec_clearTrip (s : State) (hr : noRestart s) (hi : s.ctl.station ≠ .init) :
    exec (.clearTrip []) s =
      .next (answerWith .accepted [] .plain (clearTripEffect (s.setPort { s.port with phase := .waiting }))) := by
  have judged : judge 0x10 [] (endSelect s) = .accepted := by
    rw [endSelect_eq s hr, judge, if_neg (by simpa using hi)]
    rfl
  rw [exec, execClearTrip, serve, answerCommand_accepted 0x10 [] _ .clearTrip judged rfl, accept, endSelect_eq s hr]
  rfl

/-- The state of CLEAR-TRIP on a TRIPPED set before its breaker is looked at (R61). -/
def tripReleased (s : State) : State :=
  raise .unit ((s.setDemand { s.demand with lockout := false }).setLs s.ls.tripCleared)

theorem clearTripEffect_feeder (s : State) (h : s.isGenset = false) : clearTripEffect s = s := by
  simp [clearTripEffect, h]

theorem clearTripEffect_other (s : State) (h : s.isGenset = true) (hu : s.ls.unit ≠ .tripped) :
    clearTripEffect s = s.setDemand { s.demand with lockout := false } := by
  simp [clearTripEffect, h, hu]

theorem clearTripEffect_tripped (s : State) (h : s.isGenset = true) (hu : s.ls.unit = .tripped) :
    clearTripEffect s =
      if s.intake.setBreaker.settled = .closed then setSettlesClosed (tripReleased s) else tripReleased s := by
  rw [clearTripEffect, if_pos h]
  exact if_pos hu

/-- A set that comes onto the bus leaves the port but for UNIT (R56, R62). -/
theorem setSettlesClosed_port (s : State) (hw : s.ctl.station.working = true) (hu : s.ls.unit = .offline) :
    (setSettlesClosed s).port.changeWord = s.port.changeWord ||| ChangeFlag.unit.mask ∧
    (setSettlesClosed s).demand.lockout = s.demand.lockout := by
  have port (t : State) (h : t.ls.unit ≠ .rampOut) : (refreshBiasNow t).port = t.port := by
    have still : ¬ t.ls.dropBias.unit = .rampOut := h
    unfold refreshBiasNow refreshBias
    split <;> simp [abandonRampOut, still]
  rw [setSettlesClosed, if_pos ⟨hw, .inl hu⟩, port _ (by simp [LoadShare.ontoBus])]
  simp [Demand.endAttempt]

/-- What CLEAR-TRIP makes of a TRIPPED set: OFFLINE, or RAMP-IN where its breaker stands settled CLOSED in RUN, FALLBACK or
SILENT (R56, R61). -/
theorem clearTripEffect_releases (s : State) (h : s.isGenset = true) (hu : s.ls.unit = .tripped) :
    (clearTripEffect s).demand.lockout = false ∧ (clearTripEffect s).ls.stop = false ∧
    (clearTripEffect s).port.changeWord = s.port.changeWord ||| ChangeFlag.unit.mask ∧
    (clearTripEffect s).ls.unit =
      (if s.ctl.station.working = true ∧ s.intake.setBreaker.settled = .closed then .rampIn else .offline) ∧
    (s.ctl.station.working = true → s.intake.setBreaker.settled = .closed → (clearTripEffect s).ls.k = 0) := by
  have unit : (tripReleased s).ls.unit = .offline := rfl
  rw [clearTripEffect_tripped s h hu]
  by_cases hb : s.intake.setBreaker.settled = .closed
  · by_cases hw : s.ctl.station.working = true
    · obtain ⟨hunit, hk, hstop, -⟩ := setSettlesClosed_ontoBus (tripReleased s) hw (.inl unit)
      obtain ⟨hword, hlockout⟩ := setSettlesClosed_port (tripReleased s) hw unit
      rw [if_pos hb, if_pos ⟨hw, hb⟩]
      refine ⟨hlockout, hstop, hword.trans ?_, hunit, fun _ _ => hk⟩
      rw [tripReleased, raise_changeWord, BitVec.or_assoc, BitVec.or_self]
      rfl
    · rw [if_pos hb, setSettlesClosed_else (tripReleased s) (fun hc => hw hc.1), if_neg (fun hc => hw hc.1)]
      exact ⟨rfl, rfl, rfl, unit, fun hc => absurd hc hw⟩
  · rw [if_neg hb, if_neg (fun hc => hb hc.2)]
    exact ⟨rfl, rfl, rfl, unit, fun _ hc => absurd hc hb⟩

/-- Settles O58, by the role and the unit state that CLEAR-TRIP meets. -/
theorem clearTripReleasesSet : Obligations.ClearTripReleasesSet := by
  unfold Obligations.ClearTripReleasesSet
  intro s hr hi
  refine ⟨_, exec_clearTrip s hr hi, ⟨rfl, rfl⟩, by simp, by simp, by simp, by simp, by simp, by simp, fun hf => ?_, fun hg => ?_,
    fun hg hu => ?_, fun hg hu => ?_⟩
  · have still := clearTripEffect_feeder (s.setPort { s.port with phase := .waiting })
      (isGenset_of_feeder s ((isFeeder_iff s).1 hf))
    rw [still]
    exact ⟨⟨rfl, rfl, rfl, rfl, rfl⟩, by simp [Kept]⟩
  · by_cases hu : s.ls.unit = .tripped
    · obtain ⟨hlockout, -⟩ := clearTripEffect_releases (s.setPort { s.port with phase := .waiting }) hg hu
      exact hlockout
    · rw [clearTripEffect_other (s.setPort { s.port with phase := .waiting }) hg hu]
      rfl
  · rw [clearTripEffect_other (s.setPort { s.port with phase := .waiting }) hg hu]
    exact ⟨rfl, ⟨rfl, rfl, rfl, rfl, rfl⟩, by simp [Kept]⟩
  · obtain ⟨-, hreleased⟩ := clearTripEffect_releases (s.setPort { s.port with phase := .waiting }) hg hu
    exact hreleased

/-! ### The timers that end in real time (R77, R79, R123) -/

theorem exec_tripTimeout (s : State) (ht : s.ls.trip = true) (hrun : s.ls.tripTimer ≠ none) :
    exec .tripTimeout s = .next (raise .breaker (s.setLs s.ls.tripTimedOut)) := if_pos ⟨ht, hrun⟩

theorem exec_stopPulseEnd (s : State) (h : s.ls.stopTimer ≠ none) :
    exec .stopPulseEnd s = .next (s.setLs { s.ls with stop := false, stopTimer := none }) := if_pos h

theorem exec_timeTagWrap (s : State) (h : s.ctl.station.active = true) :
    exec .timeTagWrap s =
      .next (s.setCap { s.cap with tag := 0, tagMicros := 0, tagWraps := s.cap.tagWraps + 1, overflow := true }) := if_pos h

theorem pulseDue_iff (s : State) (n : Nat) (h : s.port.pulse = some n) :
    timerDue Config.pulseUs s.port.pulse = true ↔ 10 ≤ n := by
  rw [h, timerDue_some, decide_eq_true_iff, Config.pulseUs]

/-- The attention line falls once the pulse has its 10 microseconds, and not before (R173). -/
theorem exec_attentionPulseEnd_due (s : State) (n : Nat) (h : s.port.pulse = some n) (hdue : 10 ≤ n) :
    exec .attentionPulseEnd s = .next (s.setPort { s.port with attention := false, pulse := none }) :=
  if_pos ((pulseDue_iff s n h).2 hdue)

theorem exec_attentionPulseEnd_early (s : State) (n : Nat) (h : s.port.pulse = some n) (hearly : n < 10) :
    exec .attentionPulseEnd s = .next s :=
  if_neg fun hdue => absurd ((pulseDue_iff s n h).1 hdue) (by omega)

/-! ### The attention line in PULSE mode (R173) -/

/-- A raise that takes an enabled flag from clear to set asserts the line with the pulse from 0 (R173). -/
theorem raise_pulses (f : ChangeFlag) (s : State) (hm : s.ctl.cfg.attentionMode = .pulse) (hclear : flagOf s f = false)
    (henabled : flagSet s.ctl.cfg.attentionMask f = true) :
    (raise f s).port.attention = true ∧ (raise f s).port.pulse = some 0 := by
  unfold flagOf at hclear
  simp [raise, Port.raise, State.setPort, hm, hclear, henabled]

/-- Any other raise leaves line and pulse (R173). -/
theorem raise_no_pulse (f : ChangeFlag) (s : State) (hm : s.ctl.cfg.attentionMode = .pulse)
    (h : flagOf s f = true ∨ flagSet s.ctl.cfg.attentionMask f = false) :
    (raise f s).port.attention = s.port.attention ∧ (raise f s).port.pulse = s.port.pulse := by
  unfold flagOf at h
  rcases h with h | h <;> simp [raise, Port.raise, State.setPort, hm, h]

theorem clearFlags_no_pulse (w : FlagWord) (s : State) (hm : s.ctl.cfg.attentionMode = .pulse) :
    (clearFlags w s).port.attention = s.port.attention ∧ (clearFlags w s).port.pulse = s.port.pulse := by
  simp [clearFlags, Port.clear, State.setPort, hm]

/-- A running store operation completes with STORE-DONE raised (R159). -/
theorem exec_storeCompletion (s : State) (h : s.ctl.store ≠ .idle) :
    exec .storeCompletion s = .next (raise .storeDone (s.setCtl s.ctl.storeDone)) := if_neg h

/-- Settles O35, timer by timer; the attention line by the flag that a raise meets. -/
theorem realTimeTimersEnd : Obligations.RealTimeTimersEnd := by
  unfold Obligations.RealTimeTimersEnd
  refine ⟨fun s => ⟨fun ht hrun => ?_, fun hrun => ?_⟩, fun s => ⟨fun ha => ?_, fun n hn hdue => ?_, fun n hn hearly => ?_⟩,
    fun f s hm => ?_, fun s hstore hm => ?_⟩
  · exact ⟨_, exec_tripTimeout s ht hrun, rfl, ⟨rfl, rfl, rfl, rfl⟩, by simp [Kept]⟩
  · exact ⟨_, exec_stopPulseEnd s hrun, rfl, by simp [Kept]⟩
  · exact ⟨_, exec_timeTagWrap s ha, rfl, rfl, rfl, rfl, rfl, by simp [Kept]⟩
  · exact ⟨_, exec_attentionPulseEnd_due s n hn hdue, rfl, by simp [Kept]⟩
  · exact exec_attentionPulseEnd_early s n hn hearly
  · exact ⟨by simp, fun g hg => by simp [hg.symm], raise_pulses f s hm, raise_no_pulse f s hm,
      fun w => clearFlags_no_pulse w s hm⟩
  · have mode : (s.setCtl s.ctl.storeDone).ctl.cfg = s.ctl.cfg := storeDone_cfg s.ctl
    refine ⟨_, exec_storeCompletion s hstore, fun hclear henabled => ?_, fun h => ?_⟩
    · exact raise_pulses .storeDone (s.setCtl s.ctl.storeDone) (by rw [mode]; exact hm) hclear (by rw [mode]; exact henabled)
    · exact raise_no_pulse .storeDone (s.setCtl s.ctl.storeDone) (by rw [mode]; exact hm) (by rw [mode]; exact h)

end Machine
end Sys2Proof

/-! Proofs. The load-share unit's work at an expiry, step by step (R65 to R75, R80). -/

namespace Sys2Proof
namespace Machine

open Safety

/-! ### The terms of the bias update (R65 to R70) -/

theorem clampInt_eq (x lo hi : Int) (h : lo ≤ hi) : clampInt x lo hi = max lo (min hi x) := by
  unfold clampInt
  split
  · omega
  · split <;> omega

theorem roundDiv_zero (d : Int) (h : 0 < d) : roundDiv 0 d = 0 := by
  rw [roundDiv, if_pos (Int.le_refl 0)]
  exact Int.ediv_eq_zero_of_lt (by omega) (by omega)

section Terms

variable (s : State)

theorem pOwn_eq : s.pOwn = max (-5000) (min 15000 (roundDiv (s.intake.means.p * 10000) s.ctl.cfg.pRated)) :=
  clampInt_eq _ _ _ (by decide)

theorem qOwn_eq : s.qOwn = max (-5000) (min 15000 (roundDiv (s.intake.means.q * 10000) s.ctl.cfg.qRated)) :=
  clampInt_eq _ _ _ (by decide)

/-- The speed bias in SHARE mode: the share term of the error and the frequency term (R67, R69). -/
theorem nextSpeedBias_share (hl : 0 ≤ s.ctl.cfg.biasLimit) (hm : s.ctl.cfg.tun.mode = .share) :
    s.nextSpeedBias = limited s.ctl.cfg.biasLimit (s.ls.speedBias + roundDiv (s.ctl.cfg.tun.ks * s.shareError) 256 +
      roundDiv (s.ctl.cfg.tun.kf * s.freqError) 256) := by
  rw [State.nextSpeedBias, hm, clampInt_limited _ _ hl]

/-- The speed bias in BASE mode: the share term of base_setpoint alone (R66, R69). -/
theorem nextSpeedBias_base (hl : 0 ≤ s.ctl.cfg.biasLimit) (hm : s.ctl.cfg.tun.mode = .base) :
    s.nextSpeedBias = limited s.ctl.cfg.biasLimit
      (s.ls.speedBias + roundDiv (s.ctl.cfg.tun.ks * (s.ctl.cfg.tun.baseSetpoint - s.pOwn)) 256) := by
  rw [State.nextSpeedBias, State.shareError, hm, clampInt_limited _ _ hl, Int.add_zero]

/-- The share error of an ONLINE set is taken from the average of the sharers, and is 0 without one (R66). -/
theorem shareError_online (hm : s.ctl.cfg.tun.mode = .share) (hu : s.ls.unit = .online) :
    s.shareError = (s.view.sums.pAvg.map (fun a => a - s.pOwn)).getD 0 := by
  rw [State.shareError, hm]
  simp only [hu]
  cases s.view.sums.pAvg <;> rfl

/-- The share error of a ramping set is taken from its target (R66). -/
theorem shareError_ramp (hm : s.ctl.cfg.tun.mode = .share) (hu : s.ls.unit = .rampIn ∨ s.ls.unit = .rampOut) (x : Int)
    (hx : s.ls.target = some x) : s.shareError = x - s.pOwn := by
  rw [State.shareError, hm]
  rcases hu with hu | hu <;> simp [hu, hx]

theorem nextVoltBias_limited (hl : 0 ≤ s.ctl.cfg.vBiasLimit) :
    s.nextVoltBias = limited s.ctl.cfg.vBiasLimit
      (s.ls.voltBias + s.reactiveTerm + roundDiv (s.ctl.cfg.tun.kv * s.voltError) 256) := by
  rw [State.nextVoltBias, clampInt_limited _ _ hl]

theorem reactiveTerm_share (hm : s.ctl.cfg.tun.mode = .share) (a : Int) (ha : s.view.sums.qAvg = some a) :
    s.reactiveTerm = roundDiv (s.ctl.cfg.tun.kq * (a - s.qOwn)) 256 := by
  rw [State.reactiveTerm, hm, ha]

theorem reactiveTerm_zero (h : s.ctl.cfg.tun.mode = .base ∨ s.view.sums.qAvg = none) : s.reactiveTerm = 0 := by
  unfold State.reactiveTerm
  rcases h with h | h <;> cases hm : s.ctl.cfg.tun.mode <;> simp_all

end Terms

/-! ### The steps (R68) -/

/-- The unit with a record sent that carries the values standing (R80). -/
def LoadShare.sent (u : LoadShare) : LoadShare :=
  { u with
    actuator := { speedBias := u.speedBias, voltBias := u.voltBias, biasValid := u.biasValid }
    actuatorSent := u.actuatorSent + 1 }

section Steps

variable (s : State)

theorem lsAbandon_of (h : s.ls.unit ≠ .rampOut ∨ s.view.sums.d ≤ 0) : lsAbandon s = s := by
  unfold lsAbandon deficitAbandons abandonRampOut
  rcases h with h | h
  · rw [if_neg h]; split <;> rfl
  · rw [if_neg (by omega)]

theorem lsTrip_of (h : s.tripDue = false) : lsTrip s = s := if_neg (by simp [h])

theorem tripDue_of_not_rampOut (h : s.ls.unit ≠ .rampOut) : s.tripDue = false := by simp [State.tripDue, h]

/-- TRIP is due in a ramp-out with TRIP released and no trip failed, at N_out and near unload, or at 2 × N_out (R75). -/
theorem tripDue_iff (hu : s.ls.unit = .rampOut) (ht : s.ls.trip = false) (hf : s.ls.tripFailed = false) :
    s.tripDue = true ↔
      (s.ctl.cfg.nOut ≤ s.ls.k ∧ s.pOwn ≤ s.ctl.cfg.unload + 200) ∨ s.ls.k = 2 * s.ctl.cfg.nOut := by
  simp [State.tripDue, hu, ht, hf]

/-- What the ramp goes by is the same in `x` as in `u`. -/
def SameRamp (u x : LoadShare) : Prop :=
  x.unit = u.unit ∧ x.k = u.k ∧ x.p0 = u.p0 ∧ x.target = u.target ∧ x.trip = u.trip ∧ x.tripTimer = u.tripTimer ∧
  x.tripFailed = u.tripFailed

/-- The bias update leaves the ramp (R69, R70). -/
theorem lsBias_sameRamp : SameRamp s.ls (lsBias s).ls := by
  unfold lsBias
  split <;> exact ⟨rfl, rfl, rfl, rfl, rfl, rfl, rfl⟩

theorem tripDue_lsBias : (lsBias s).tripDue = s.tripDue := by
  obtain ⟨hunit, hk, -, -, htrip, -, hfailed⟩ := lsBias_sameRamp s
  have own : (lsBias s).pOwn = s.pOwn := by simp [State.pOwn]
  unfold State.tripDue
  rw [own, hunit, hk, htrip, hfailed, lsBias_ctl]

/-- The ramp-in is complete with the counter and the average as they stand (R72). -/
def RampInEnds : Prop := s.ls.unit = .rampIn ∧ (s.ctl.cfg.nIn ≤ s.ls.k ∨ s.view.sums.pAvg = none)

theorem rampInEnds_lsBias : RampInEnds (lsBias s) ↔ RampInEnds s := by
  obtain ⟨hunit, hk, -⟩ := lsBias_sameRamp s
  rw [RampInEnds, RampInEnds, hunit, hk, lsBias_ctl, lsBias_view]

/-- The bias update moves the biases only while BIAS-VALID is asserted (R69, R70). -/
theorem lsBias_biases :
    (lsBias s).ls.speedBias = (if s.ls.biasValid then s.nextSpeedBias else s.ls.speedBias) ∧
    (lsBias s).ls.voltBias = (if s.ls.biasValid then s.nextVoltBias else s.ls.voltBias) := by
  unfold lsBias
  cases s.ls.biasValid <;> exact ⟨rfl, rfl⟩

theorem lsBias_valid : (lsBias s).ls.biasValid = s.ls.biasValid := by
  unfold lsBias
  split <;> rfl

/-- The steps after the bias update touch neither the biases nor BIAS-VALID. -/
theorem lsTrip_lsComplete_biases :
    (lsTrip (lsComplete s)).ls.speedBias = s.ls.speedBias ∧ (lsTrip (lsComplete s)).ls.voltBias = s.ls.voltBias ∧
    (lsTrip (lsComplete s)).ls.biasValid = s.ls.biasValid := by
  have tripped (t : State) : (lsTrip t).ls.speedBias = t.ls.speedBias ∧ (lsTrip t).ls.voltBias = t.ls.voltBias ∧
      (lsTrip t).ls.biasValid = t.ls.biasValid := by
    unfold lsTrip; split <;> exact ⟨rfl, rfl, rfl⟩
  obtain ⟨hspeed, hvolt, hvalid⟩ := tripped (lsComplete s)
  rw [hspeed, hvolt, hvalid, lsComplete]
  split <;> exact ⟨rfl, rfl, rfl⟩

/-- The ramp step moves the counter and the target alone (R72, R74). -/
theorem lsRamp_kept (fresh : Bool) :
    (lsRamp fresh s).ls = { s.ls with k := (lsRamp fresh s).ls.k, target := (lsRamp fresh s).ls.target } := by
  unfold lsRamp
  repeat' split
  all_goals rfl

/-- The abandoning of a ramp-out leaves the biases (R78). -/
theorem lsAbandon_biases :
    (lsAbandon s).ls.speedBias = s.ls.speedBias ∧ (lsAbandon s).ls.voltBias = s.ls.voltBias ∧
    (lsAbandon s).ls.biasValid = s.ls.biasValid := by
  obtain ⟨hvalid, hspeed, hvolt⟩ := abandonRampOut_bias s
  unfold lsAbandon deficitAbandons
  split
  · exact ⟨hspeed, hvolt, hvalid⟩
  · exact ⟨rfl, rfl, rfl⟩

end Steps

/-! ### The whole work (R68) -/

section Work

variable (fresh : Bool) (s : State) (hg : s.isGenset = true) (hw : s.ctl.station.working = true)

/-- The state as the bias update finds it: a deficit has abandoned a ramp-out, the ramp has moved. -/
def ramped : State := lsRamp fresh (lsAbandon s)

@[simp] theorem ramped_ctl : (ramped fresh s).ctl = s.ctl := by simp [ramped]
@[simp] theorem ramped_intake : (ramped fresh s).intake = s.intake := by simp [ramped]
@[simp] theorem ramped_view : (ramped fresh s).view = s.view := by simp [ramped]

theorem ramped_biases :
    (ramped fresh s).ls.speedBias = s.ls.speedBias ∧ (ramped fresh s).ls.voltBias = s.ls.voltBias ∧
    (ramped fresh s).ls.biasValid = s.ls.biasValid := by
  rw [ramped, lsRamp_kept]
  exact lsAbandon_biases s

theorem ramped_pOwn : (ramped fresh s).pOwn = s.pOwn := by simp [State.pOwn]

/-- The work reaches the load-share unit and the change flags alone (R68). -/
theorem kept_loadShareWork : Kept [.ls, .port] s (loadShareWork fresh s) := by simp [Kept]

include hg hw

theorem loadShareWork_eq :
    loadShareWork fresh s = sendActuator (lsTrip (lsComplete (lsBias (ramped fresh s)))) := by
  rw [loadShareWork, if_pos hg, if_pos hw]
  rfl

/-- The load-share unit after the work: the steps, and the record sent (R68, R80). -/
theorem loadShareWork_ls :
    (loadShareWork fresh s).ls = (lsTrip (lsComplete (lsBias (ramped fresh s)))).ls.sent := by
  have genset : (lsTrip (lsComplete (lsBias (ramped fresh s)))).isGenset = true := by simpa [State.isGenset] using hg
  rw [loadShareWork_eq fresh s hg hw]
  exact sendActuator_ls _ genset

/-- The biases after the work: those of the update, or those before it while BIAS-VALID is not asserted; the record carries
them. -/
theorem loadShareWork_biases :
    (loadShareWork fresh s).ls.speedBias =
      (if s.ls.biasValid then (ramped fresh s).nextSpeedBias else s.ls.speedBias) ∧
    (loadShareWork fresh s).ls.voltBias =
      (if s.ls.biasValid then (ramped fresh s).nextVoltBias else s.ls.voltBias) ∧
    (loadShareWork fresh s).ls.biasValid = s.ls.biasValid := by
  obtain ⟨hspeed, hvolt, hvalid⟩ := lsTrip_lsComplete_biases (lsBias (ramped fresh s))
  obtain ⟨uspeed, uvolt⟩ := lsBias_biases (ramped fresh s)
  obtain ⟨rspeed, rvolt, rvalid⟩ := ramped_biases fresh s
  rw [loadShareWork_ls fresh s hg hw]
  refine ⟨?_, ?_, ?_⟩
  · rw [← rvalid, ← rspeed, ← uspeed]; exact hspeed
  · rw [← rvalid, ← rvolt, ← uvolt]; exact hvolt
  · rw [← rvalid, ← lsBias_valid]; exact hvalid

theorem speedBias_share (hl : 0 ≤ s.ctl.cfg.biasLimit) (hv : s.ls.biasValid = true)
    (hm : s.ctl.cfg.tun.mode = .share) :
    (loadShareWork fresh s).ls.speedBias = limited s.ctl.cfg.biasLimit (s.ls.speedBias +
      roundDiv (s.ctl.cfg.tun.ks * (ramped fresh s).shareError) 256 + roundDiv (s.ctl.cfg.tun.kf * s.freqError) 256) := by
  obtain ⟨hspeed, -⟩ := loadShareWork_biases fresh s hg hw
  rw [hspeed, if_pos hv, nextSpeedBias_share _ (by simpa using hl) (by simpa using hm), (ramped_biases fresh s).1]
  simp [State.freqError]

theorem voltBias_limited (hl : 0 ≤ s.ctl.cfg.vBiasLimit) (hv : s.ls.biasValid = true) :
    (loadShareWork fresh s).ls.voltBias = limited s.ctl.cfg.vBiasLimit
      (s.ls.voltBias + s.reactiveTerm + roundDiv (s.ctl.cfg.tun.kv * s.voltError) 256) := by
  obtain ⟨-, hvolt, -⟩ := loadShareWork_biases fresh s hg hw
  rw [hvolt, if_pos hv, nextVoltBias_limited _ (by simpa using hl), (ramped_biases fresh s).2.1]
  simp [State.voltError, State.reactiveTerm, State.qOwn]

theorem speedBias_base (hl : 0 ≤ s.ctl.cfg.biasLimit) (hv : s.ls.biasValid = true) (hm : s.ctl.cfg.tun.mode = .base) :
    (loadShareWork fresh s).ls.speedBias = limited s.ctl.cfg.biasLimit
      (s.ls.speedBias + roundDiv (s.ctl.cfg.tun.ks * (s.ctl.cfg.tun.baseSetpoint - s.pOwn)) 256) := by
  obtain ⟨hspeed, -⟩ := loadShareWork_biases fresh s hg hw
  rw [hspeed, if_pos hv, nextSpeedBias_base _ (by simpa using hl) (by simpa using hm), (ramped_biases fresh s).1,
    ramped_pOwn, ramped_ctl]

/-- The record sent carries the values standing at the end of the work (R80). -/
theorem loadShareWork_actuator :
    (loadShareWork fresh s).ls.actuator =
      { speedBias := (loadShareWork fresh s).ls.speedBias, voltBias := (loadShareWork fresh s).ls.voltBias,
        biasValid := (loadShareWork fresh s).ls.biasValid } := by
  rw [loadShareWork_ls fresh s hg hw]
  rfl

/-! ### The ramp through the work (R72, R74, R75) -/

/-- With no ramp-in complete and TRIP not due the ramp stands as its step left it, and no flag is raised. -/
theorem loadShareWork_stands (hc : ¬ RampInEnds (ramped fresh s)) (ht : (ramped fresh s).tripDue = false) :
    SameRamp (ramped fresh s).ls (loadShareWork fresh s).ls ∧ (loadShareWork fresh s).port = (ramped fresh s).port := by
  have goesOn : lsComplete (lsBias (ramped fresh s)) = lsBias (ramped fresh s) :=
    if_neg fun h => hc ((rampInEnds_lsBias _).1 h)
  have released : lsTrip (lsBias (ramped fresh s)) = lsBias (ramped fresh s) :=
    lsTrip_of _ ((tripDue_lsBias _).trans ht)
  constructor
  · rw [loadShareWork_ls fresh s hg hw, goesOn, released]
    exact lsBias_sameRamp _
  · rw [loadShareWork_eq fresh s hg hw, goesOn, released, sendActuator_port, lsBias_port]

/-- A complete ramp-in is ONLINE with counter and target cleared and UNIT raised (R72). -/
theorem loadShareWork_completes (hc : RampInEnds (ramped fresh s)) :
    (loadShareWork fresh s).ls.unit = .online ∧ (loadShareWork fresh s).ls.k = 0 ∧
    (loadShareWork fresh s).ls.target = none ∧ flagOf (loadShareWork fresh s) .unit = true := by
  have completes : lsComplete (lsBias (ramped fresh s)) = raise .unit ((lsBias (ramped fresh s)).setLs
      { (lsBias (ramped fresh s)).ls with unit := .online, k := 0, target := none }) :=
    if_pos ((rampInEnds_lsBias _).2 hc)
  have still : lsTrip (lsComplete (lsBias (ramped fresh s))) = lsComplete (lsBias (ramped fresh s)) :=
    lsTrip_of _ (tripDue_of_not_rampOut _ (by rw [completes]; simp))
  have flag : flagOf (loadShareWork fresh s) .unit = true := by
    rw [loadShareWork_eq fresh s hg hw, still, completes]
    exact flagsKept_sendActuator _ _ (by simp)
  rw [loadShareWork_ls fresh s hg hw, still, completes]
  exact ⟨rfl, rfl, rfl, flag⟩

/-- TRIP asserted when it is due, its timer from 0, and nothing else of the ramp (R75). -/
theorem loadShareWork_trips (ht : (ramped fresh s).tripDue = true) :
    SameRamp { (ramped fresh s).ls with trip := true, tripTimer := some 0 } (loadShareWork fresh s).ls := by
  have due : (lsBias (ramped fresh s)).tripDue = true := (tripDue_lsBias _).trans ht
  have goesOn : lsComplete (lsBias (ramped fresh s)) = lsBias (ramped fresh s) := by
    refine if_neg fun h => ?_
    rw [tripDue_of_not_rampOut _ (by rw [h.1]; decide)] at due
    exact absurd due (by decide)
  obtain ⟨hunit, hk, hp0, htarget, -, -, hfailed⟩ := lsBias_sameRamp (ramped fresh s)
  rw [loadShareWork_ls fresh s hg hw, goesOn, lsTrip, if_pos due]
  exact ⟨hunit, hk, hp0, htarget, rfl, rfl, hfailed⟩

/-! ### By the unit state -/

omit hg hw in
theorem ramped_online (hu : s.ls.unit = .online) : ramped fresh s = s := by
  rw [ramped, lsAbandon_of s (.inl (by rw [hu]; decide)), lsRamp, hu]

omit hg hw in
theorem ramped_rampIn (hu : s.ls.unit = .rampIn) :
    ramped fresh s = s.setLs { s.ls with
      k := s.ls.k + 1, target := rampInTarget s.view.sums.pAvg (s.ls.k + 1) s.ctl.cfg.nIn } := by
  rw [ramped, lsAbandon_of s (.inl (by rw [hu]; decide)), lsRamp, hu]

omit hg hw in
/-- A deficit abandons the ramp-out before its step (R78). -/
theorem ramped_abandoned (hu : s.ls.unit = .rampOut) (hd : 0 < s.view.sums.d) :
    ramped fresh s = raise .unit (s.setLs { s.ls.clearRamp with
      unit := .online, trip := false, tripTimer := none, tripFailed := false }) := by
  rw [ramped, lsAbandon, deficitAbandons, if_pos hd, abandonRampOut, if_pos hu]
  rfl

omit hg hw in
theorem ramped_rampOut (hu : s.ls.unit = .rampOut) (hd : s.view.sums.d ≤ 0) :
    ramped fresh s =
      if s.ls.tripFailed = true then s.setLs { s.ls with target := some s.ctl.cfg.unload }
      else if fresh = true ∨ s.ls.trip = true then s
      else s.setLs { s.ls with
        k := min (s.ls.k + 1) (2 * s.ctl.cfg.nOut)
        target := some (rampOutTarget (s.ls.p0.getD 0) s.ctl.cfg.unload (min (s.ls.k + 1) (2 * s.ctl.cfg.nOut))
          s.ctl.cfg.nOut) } := by
  rw [ramped, lsAbandon_of s (.inr hd), lsRamp, hu]

theorem loadShareWork_online (hu : s.ls.unit = .online) :
    (loadShareWork fresh s).ls.unit = .online ∧ (loadShareWork fresh s).port = s.port := by
  have same := ramped_online fresh s hu
  obtain ⟨⟨hunit, -⟩, hport⟩ := loadShareWork_stands fresh s hg hw (fun h => by rw [same, RampInEnds, hu] at h; simp at h)
    (tripDue_of_not_rampOut _ (by rw [same, hu]; decide))
  rw [same] at hunit hport
  exact ⟨hunit.trans hu, hport⟩

/-- RAMP-IN: the counter rises with the target, up to N_in or the loss of the average (R72). -/
theorem loadShareWork_rampIn (hu : s.ls.unit = .rampIn) :
    (s.ls.k + 1 < s.ctl.cfg.nIn → s.view.sums.pAvg ≠ none →
      (loadShareWork fresh s).ls.unit = .rampIn ∧ (loadShareWork fresh s).ls.k = s.ls.k + 1 ∧
      (loadShareWork fresh s).ls.target = rampInTarget s.view.sums.pAvg (s.ls.k + 1) s.ctl.cfg.nIn) ∧
    (s.ctl.cfg.nIn ≤ s.ls.k + 1 ∨ s.view.sums.pAvg = none →
      (loadShareWork fresh s).ls.unit = .online ∧ (loadShareWork fresh s).ls.k = 0 ∧
      (loadShareWork fresh s).ls.target = none ∧ flagOf (loadShareWork fresh s) .unit = true) := by
  have moved := ramped_rampIn fresh s hu
  have ends : RampInEnds (ramped fresh s) ↔ s.ctl.cfg.nIn ≤ s.ls.k + 1 ∨ s.view.sums.pAvg = none := by
    rw [moved, RampInEnds]
    simp [hu]
  refine ⟨fun hk ha => ?_, fun h => loadShareWork_completes fresh s hg hw (ends.2 h)⟩
  obtain ⟨⟨hunit, hcount, -, htarget, -⟩, -⟩ := loadShareWork_stands fresh s hg hw
    (fun h => (ends.1 h).elim (by omega) ha) (tripDue_of_not_rampOut _ (by rw [moved]; simp [hu]))
  rw [moved] at hunit hcount htarget
  exact ⟨hunit.trans hu, hcount, htarget⟩

/-- A deficit leaves the set ONLINE (R78). -/
theorem loadShareWork_abandons (hu : s.ls.unit = .rampOut) (hd : 0 < s.view.sums.d) :
    (loadShareWork fresh s).ls.unit = .online ∧ (loadShareWork fresh s).ls.k = 0 ∧
    (loadShareWork fresh s).ls.p0 = none ∧ (loadShareWork fresh s).ls.target = none ∧
    (loadShareWork fresh s).ls.trip = false ∧ (loadShareWork fresh s).ls.tripTimer = none ∧
    (loadShareWork fresh s).ls.tripFailed = false ∧ flagOf (loadShareWork fresh s) .unit = true := by
  have abandoned := ramped_abandoned fresh s hu hd
  obtain ⟨⟨hunit, hk, hp0, htarget, htrip, htimer, hfailed⟩, hport⟩ := loadShareWork_stands fresh s hg hw
    (fun h => by rw [abandoned] at h; simp [RampInEnds] at h) (tripDue_of_not_rampOut _ (by rw [abandoned]; simp))
  have flag : flagOf (loadShareWork fresh s) .unit = true := by rw [flagOf_congr hport, abandoned]; simp
  rw [abandoned] at hunit hk hp0 htarget htrip htimer hfailed
  exact ⟨hunit, hk, hp0, htarget, htrip, htimer, hfailed, flag⟩

/-- RAMP-OUT without a deficit: the ramp as its step left it, but for TRIP when it is due (R74, R75). -/
theorem loadShareWork_rampOut (hu : (ramped fresh s).ls.unit = .rampOut) :
    ((ramped fresh s).tripDue = false → SameRamp (ramped fresh s).ls (loadShareWork fresh s).ls) ∧
    ((ramped fresh s).tripDue = true →
      SameRamp { (ramped fresh s).ls with trip := true, tripTimer := some 0 } (loadShareWork fresh s).ls) := by
  refine ⟨fun h => ?_, loadShareWork_trips fresh s hg hw⟩
  exact (loadShareWork_stands fresh s hg hw (fun hc => by rw [RampInEnds, hu] at hc; simp at hc) h).1

/-- With the trip-failed mark set the set holds at unload (R77). -/
theorem loadShareWork_tripFailed (hu : s.ls.unit = .rampOut) (hd : s.view.sums.d ≤ 0) (hf : s.ls.tripFailed = true) :
    (loadShareWork fresh s).ls.unit = .rampOut ∧ (loadShareWork fresh s).ls.k = s.ls.k ∧
    (loadShareWork fresh s).ls.target = some s.ctl.cfg.unload ∧ (loadShareWork fresh s).ls.trip = s.ls.trip := by
  have moved : ramped fresh s = s.setLs { s.ls with target := some s.ctl.cfg.unload } := by
    rw [ramped_rampOut fresh s hu hd, if_pos hf]
  obtain ⟨stands, -⟩ := loadShareWork_rampOut fresh s hg hw (by rw [moved]; exact hu)
  obtain ⟨hunit, hk, -, htarget, htrip, -⟩ := stands (by rw [moved]; simp [State.tripDue, hf])
  rw [moved] at hunit hk htarget htrip
  exact ⟨hunit.trans hu, hk, htarget, htrip⟩

/-- With TRIP asserted counter and target stay (R75, log entry 32). -/
theorem loadShareWork_tripAsserted (hu : s.ls.unit = .rampOut) (hd : s.view.sums.d ≤ 0) (ht : s.ls.trip = true)
    (hf : s.ls.tripFailed = false) :
    (loadShareWork fresh s).ls.unit = .rampOut ∧ (loadShareWork fresh s).ls.k = s.ls.k ∧
    (loadShareWork fresh s).ls.target = s.ls.target ∧ (loadShareWork fresh s).ls.trip = true ∧
    (loadShareWork fresh s).ls.tripTimer = s.ls.tripTimer := by
  have moved : ramped fresh s = s := by
    rw [ramped_rampOut fresh s hu hd, if_neg (by simp [hf]), if_pos (.inr ht)]
  obtain ⟨stands, -⟩ := loadShareWork_rampOut fresh s hg hw (by rw [moved]; exact hu)
  obtain ⟨hunit, hk, -, htarget, htrip, htimer, -⟩ := stands (by rw [moved]; simp [State.tripDue, ht])
  rw [moved] at hunit hk htarget htrip htimer
  exact ⟨hunit.trans hu, hk, htarget, htrip.trans ht, htimer⟩

/-- A ramp-out request taken at this expiry leaves counter and target (R73). -/
theorem loadShareWork_fresh (hu : s.ls.unit = .rampOut) (hd : s.view.sums.d ≤ 0) (ht : s.ls.trip = false)
    (hf : s.ls.tripFailed = false) (hfresh : fresh = true) (hk : s.ls.k = 0) (hn : 1 ≤ s.ctl.cfg.nOut) :
    (loadShareWork fresh s).ls.unit = .rampOut ∧ (loadShareWork fresh s).ls.k = 0 ∧
    (loadShareWork fresh s).ls.target = s.ls.target ∧ (loadShareWork fresh s).ls.trip = false := by
  have moved : ramped fresh s = s := by
    rw [ramped_rampOut fresh s hu hd, if_neg (by simp [hf]), if_pos (.inl hfresh)]
  have early : (ramped fresh s).tripDue = false := by
    rw [moved, Bool.eq_false_iff, ne_eq, tripDue_iff s hu ht hf, hk]
    omega
  obtain ⟨stands, -⟩ := loadShareWork_rampOut fresh s hg hw (by rw [moved]; exact hu)
  obtain ⟨hunit, hcount, -, htarget, htrip, -⟩ := stands early
  rw [moved] at hunit hcount htarget htrip
  exact ⟨hunit.trans hu, hcount.trans hk, htarget, htrip.trans ht⟩

omit hg hw in
/-- The step of a ramp-out in progress (R74). -/
theorem ramped_steps (hu : s.ls.unit = .rampOut) (hd : s.view.sums.d ≤ 0) (ht : s.ls.trip = false)
    (hf : s.ls.tripFailed = false) (hfresh : fresh = false) (p : Int) (hp : s.ls.p0 = some p) :
    ramped fresh s = s.setLs { s.ls with
      k := min (s.ls.k + 1) (2 * s.ctl.cfg.nOut)
      target := some (rampOutTarget p s.ctl.cfg.unload (min (s.ls.k + 1) (2 * s.ctl.cfg.nOut)) s.ctl.cfg.nOut) } := by
  rw [ramped_rampOut fresh s hu hd, if_neg (by simp [hf]), if_neg (by simp [ht, hfresh]), hp]
  rfl

/-- A ramp-out in progress: counter and target step, and TRIP is asserted when it is due (R74, R75). -/
theorem loadShareWork_steps (hu : s.ls.unit = .rampOut) (hd : s.view.sums.d ≤ 0) (ht : s.ls.trip = false)
    (hf : s.ls.tripFailed = false) (hfresh : fresh = false) (p : Int) (hp : s.ls.p0 = some p) (k : Nat)
    (hk : k = min (s.ls.k + 1) (2 * s.ctl.cfg.nOut)) :
    (loadShareWork fresh s).ls.unit = .rampOut ∧ (loadShareWork fresh s).ls.k = k ∧
    (loadShareWork fresh s).ls.p0 = some p ∧
    (loadShareWork fresh s).ls.target = some (rampOutTarget p s.ctl.cfg.unload k s.ctl.cfg.nOut) ∧
    ((loadShareWork fresh s).ls.trip = true ↔
      (s.ctl.cfg.nOut ≤ k ∧ s.pOwn ≤ s.ctl.cfg.unload + 200) ∨ k = 2 * s.ctl.cfg.nOut) ∧
    ((loadShareWork fresh s).ls.trip = true → (loadShareWork fresh s).ls.tripTimer = some 0) ∧
    ((loadShareWork fresh s).ls.trip = false → (loadShareWork fresh s).ls.tripTimer = s.ls.tripTimer) := by
  subst hk
  have moved := ramped_steps fresh s hu hd ht hf hfresh p hp
  have due := tripDue_iff (ramped fresh s) (by rw [moved]; exact hu) (by rw [moved]; exact ht) (by rw [moved]; exact hf)
  rw [ramped_pOwn, ramped_ctl] at due
  obtain ⟨stands, trips⟩ := loadShareWork_rampOut fresh s hg hw (by rw [moved]; exact hu)
  cases hdue : (ramped fresh s).tripDue with
  | false =>
    obtain ⟨hunit, hcount, hp0, htarget, htrip, htimer, -⟩ := stands hdue
    rw [hdue] at due
    rw [moved] at due hunit hcount hp0 htarget htrip htimer
    have released : (loadShareWork fresh s).ls.trip = false := htrip.trans ht
    exact ⟨hunit.trans hu, hcount, hp0.trans hp, htarget, by rw [released]; exact due, fun h => by simp [released] at h,
      fun _ => htimer⟩
  | true =>
    obtain ⟨hunit, hcount, hp0, htarget, htrip, htimer, -⟩ := trips hdue
    rw [hdue] at due
    rw [moved] at due hunit hcount hp0 htarget
    exact ⟨hunit.trans hu, hcount, hp0.trans hp, htarget, by rw [htrip]; exact due, fun _ => htimer,
      fun h => by simp [htrip] at h⟩

end Work

/-- Settles O45: the biases by the state that the ramp step leaves, the ramp by the unit state. -/
theorem onlineBiasUpdate : Obligations.OnlineBiasUpdate := by
  unfold Obligations.OnlineBiasUpdate
  refine ⟨fun fresh s pAvg qAvg hg hw hu hv hm hd hp hq hl hvl => ⟨_, rfl, ?_⟩,
    fun fresh s ef ev pOwn hg hw hl hvl hef hev hown => ⟨_, rfl, kept_loadShareWork fresh s, ?_⟩⟩
  · obtain ⟨hunit, hport⟩ := loadShareWork_online fresh s hg hw hu
    obtain ⟨-, -, hvalid⟩ := loadShareWork_biases fresh s hg hw
    refine ⟨?_, ?_, ?_, hunit, by simp [Kept, hport]⟩
    · rw [← pOwn_eq, speedBias_share fresh s hg hw hl hv hm, ramped_online fresh s hu, shareError_online s hm hu, hp]
      rfl
    · rw [← qOwn_eq, voltBias_limited fresh s hg hw hvl hv, reactiveTerm_share s hm qAvg hq]
      rfl
    · rw [loadShareWork_actuator fresh s hg hw, hvalid, hv]
  · rw [← pOwn_eq] at hown
    subst hef hev hown
    obtain ⟨hspeed, hvolt, hvalid⟩ := loadShareWork_biases fresh s hg hw
    have ramps (x : Int) (hv : s.ls.biasValid = true) (hm : s.ctl.cfg.tun.mode = .share)
        (hu : (ramped fresh s).ls.unit = .rampIn ∨ (ramped fresh s).ls.unit = .rampOut)
        (hx : (ramped fresh s).ls.target = some x) :
        (loadShareWork fresh s).ls.speedBias = limited s.ctl.cfg.biasLimit (s.ls.speedBias +
          roundDiv (s.ctl.cfg.tun.ks * (x - s.pOwn)) 256 + roundDiv (s.ctl.cfg.tun.kf * s.freqError) 256) := by
      rw [speedBias_share fresh s hg hw hl hv hm, shareError_ramp _ (by simpa using hm) hu x hx, ramped_pOwn]
    refine ⟨loadShareWork_actuator fresh s hg hw, hvalid, fun hv => ?_, fun hv hm _ _ => ?_, fun hv hm hu hp hq => ?_,
      fun hu => ⟨fun a x ha hx => ⟨fun hk => ?_, fun hk => ?_, fun hv hm => ?_⟩, fun ha => ?_⟩,
      loadShareWork_abandons fresh s hg hw, fun hu hd ht hf hfresh p k x hp hk hx => ?_,
      loadShareWork_fresh fresh s hg hw, loadShareWork_tripFailed fresh s hg hw, loadShareWork_tripAsserted fresh s hg hw⟩
    · rw [hspeed, hvolt, hv]
      exact ⟨rfl, rfl⟩
    · rw [speedBias_base fresh s hg hw hl hv hm, voltBias_limited fresh s hg hw hvl hv, reactiveTerm_zero s (.inl hm),
        Int.add_zero]
      exact ⟨rfl, rfl⟩
    · rw [speedBias_share fresh s hg hw hl hv hm, voltBias_limited fresh s hg hw hvl hv, reactiveTerm_zero s (.inr hq),
        ramped_online fresh s hu, shareError_online s hm hu, hp, Int.add_zero]
      simp only [Option.map_none, Option.getD_none, Int.mul_zero, roundDiv_zero 256 (by decide), Int.add_zero]
      exact ⟨rfl, rfl⟩
    · obtain ⟨hunit, hcount, htarget⟩ := (loadShareWork_rampIn fresh s hg hw hu).1 hk (by rw [ha]; simp)
      exact ⟨hunit, hcount, by rw [htarget, ha, hx]; rfl⟩
    · exact (loadShareWork_rampIn fresh s hg hw hu).2 (.inl hk)
    · refine ramps x hv hm (.inl (by rw [ramped_rampIn fresh s hu]; exact hu)) ?_
      rw [ramped_rampIn fresh s hu, ha, hx]
      rfl
    · exact (loadShareWork_rampIn fresh s hg hw hu).2 (.inr ha)
    · obtain ⟨hunit, hcount, hp0, htarget, htrip, hstarts, hstays⟩ :=
        loadShareWork_steps fresh s hg hw hu hd ht hf hfresh p hp k hk
      refine ⟨hunit, hcount, hp0, by rw [htarget, hx]; rfl, htrip, hstarts, hstays, fun hv hm => ?_⟩
      have moved := ramped_steps fresh s hu hd ht hf hfresh p hp
      refine ramps x hv hm (.inr (by rw [moved]; exact hu)) ?_
      rw [moved, hx, hk]
      rfl

end Machine
end Sys2Proof

/-! Proofs. Generation on demand at an expiry: the start decision, the attempt and the stop need, and what the other blocks leave
of them (R73, R84 to R94). -/

namespace Sys2Proof
namespace Machine

open Safety

/-! ### The start decision (R84 to R88) -/

section StartDecision

variable (s : State)

theorem available_iff : s.available = true ↔ ownAvailable s := by
  simp [State.available, ownAvailable, and_assoc]

theorem keyLower_iff (o o' : Nat) (a a' : Address) : keyLower o a o' a' = true ↔ o < o' ∨ (o = o' ∧ a < a') := by
  simp [keyLower]

theorem mem_availablePeers (g : IslandGenset) :
    g ∈ s.availablePeers ↔ g ∈ s.view.sums.gensets ∧ peerAvailable g := by
  simp only [State.availablePeers, State.otherSets, peerAvailable, List.mem_filter, Bool.and_eq_true, Bool.not_eq_true',
    and_assoc]

theorem chosen_iff : s.chosen = true ↔ ownChosen s := by
  simp [State.chosen, ownChosen, available_iff, mem_availablePeers, keyLower_iff, ownKeyLower]

theorem startingSets_isEmpty :
    s.startingSets.isEmpty = true ↔ ∀ g ∈ s.view.sums.gensets, g.unit = .starting → g.tripped = true := by
  simp [State.startingSets]

theorem availablePeers_nonempty :
    s.availablePeers.isEmpty = false ↔ ∃ g ∈ s.view.sums.gensets, peerAvailable g := by
  rw [List.isEmpty_eq_false_iff_exists_mem]
  simp only [mem_availablePeers]

theorem startNeed_iff : s.startNeed = true ↔ startWanted s s.demand.startNeed := by
  simp only [State.startNeed, Bool.or_eq_true, Bool.and_eq_true, decide_eq_true_eq, startingSets_isEmpty, available_iff,
    Bool.not_eq_true', availablePeers_nonempty]
  rw [or_assoc, ← or_and_right, and_comm]
  rfl

/-- The state with the start-need timer counted (R86). -/
def needCounted : State := s.setDemand { s.demand with startNeed := s.nextStartNeed }

theorem startDecision_eq :
    startDecision s = if (needCounted s).startNeed = true ∧ (needCounted s).chosen = true then startRequest (needCounted s)
      else needCounted s := rfl

/-- Counting the start need touches neither the start need's other items nor the choice of the set. -/
theorem startNeed_needCounted : (needCounted s).startNeed = true ↔ startWanted s s.nextStartNeed :=
  startNeed_iff (needCounted s)

theorem chosen_needCounted : (needCounted s).chosen = true ↔ ownChosen s := chosen_iff (needCounted s)

/-- A start need with the own set chosen starts the set (R88). -/
theorem startDecision_starts (hw : startWanted s s.nextStartNeed) (hc : ownChosen s) :
    startDecision s = raise .unit ((s.setLs { s.ls with unit := .starting }).setDemand
      { s.demand with startNeed := s.nextStartNeed, start := true, attempt := some 0 }) := by
  obtain ⟨⟨-, hu, -, -, hp⟩, -⟩ := id hc
  rw [startDecision_eq, if_pos ⟨(startNeed_needCounted s).2 hw, (chosen_needCounted s).2 hc⟩, startRequest,
    if_pos ⟨hu, hp⟩]
  rfl

/-- Otherwise only the start-need timer counts (R86). -/
theorem startDecision_waits (h : ¬ (startWanted s s.nextStartNeed ∧ ownChosen s)) : startDecision s = needCounted s := by
  rw [startDecision_eq, if_neg]
  rwa [startNeed_needCounted, chosen_needCounted]

theorem startDecision_startNeed : (startDecision s).demand.startNeed = s.nextStartNeed := by
  by_cases h : startWanted s s.nextStartNeed ∧ ownChosen s
  · rw [startDecision_starts s h.1 h.2]
    rfl
  · rw [startDecision_waits s h]
    rfl

/-- A set locked out is not started (R84, R92). -/
theorem startDecision_lockout (h : s.demand.lockout = true) : startDecision s = needCounted s := by
  refine startDecision_waits s fun hc => ?_
  obtain ⟨-, ⟨-, -, -, hl, -⟩, -⟩ := hc
  simp [h] at hl

end StartDecision

/-! ### The stop condition and its timer (R93, R94) -/

section StopCondition

variable (s : State)

theorem reportedMode_share :
    s.reportedMode = .share ↔ s.ctl.cfg.tun.mode = .share ∧ s.ls.biasValid = true := by
  unfold State.reportedMode
  cases s.ls.biasValid <;> cases s.ctl.cfg.tun.mode <;> simp [ShareMode.reported]

theorem stopCondition_iff : s.stopCondition = true ↔ stopHolds s := by
  simp only [State.stopCondition, State.otherSets, Bool.and_eq_true, decide_eq_true_eq, reportedMode_share, List.all_eq_true,
    List.mem_filter, keyLower_iff, Bool.not_eq_true']
  unfold stopHolds
  grind

theorem stopHolds_of_due (h : s.stopDue = true) : stopHolds s := by
  simp only [State.stopDue, Bool.and_eq_true] at h
  exact (stopCondition_iff s).1 h.1

theorem stopWork_due (h : s.stopDue = true) :
    stopWork s = rampOutRequest (s.setDemand { s.demand with stopNeed := 0 }) := if_pos h

theorem stopWork_counts (h : stopHolds s) (hn : s.demand.stopNeed + 1 < s.ctl.cfg.stopDelay) :
    stopWork s = s.setDemand { s.demand with stopNeed := s.demand.stopNeed + 1 } := by
  have holds := (stopCondition_iff s).2 h
  rw [stopWork, if_neg (by simp [State.stopDue, hn]), if_pos holds]

theorem stopWork_clears (h : ¬ stopHolds s) : stopWork s = s.setDemand { s.demand with stopNeed := 0 } := by
  have fails := mt (stopCondition_iff s).1 h
  rw [stopWork, if_neg (by simp [State.stopDue, fails]), if_neg fails]

/-- The stop test reaches the stop-need timer of the demand unit alone (R94). -/
theorem stopWork_demand :
    (stopWork s).demand = { s.demand with
      stopNeed := if s.stopDue = true then 0 else if s.stopCondition then s.demand.stopNeed + 1 else 0 } := by
  unfold stopWork
  split <;> simp

/-- A set that is not ONLINE has no stop condition, and its unit stands (R93). -/
theorem stopWork_ls (h : s.ls.unit ≠ .online) : (stopWork s).ls = s.ls := by
  have fails : ¬ stopHolds s := fun hs => h hs.1.1
  rw [stopWork_clears s fails]
  rfl

/-- The stop condition leaves the island without the own set's capacity loaded below stop_pct, so that with stop_pct below 100
percent there is no deficit (R93). -/
theorem load_lt_of_roundDiv_lt (l spare : Int) (hspare : 1 ≤ spare) (h : roundDiv (l * 10000) spare < 9000) : l < spare := by
  unfold roundDiv at h
  split at h
  · have below := (Int.ediv_lt_iff_lt_mul (by omega)).1 h
    omega
  · omega

end StopCondition

/-! ### The start attempt (R58, R91, R92) -/

section Attempt

variable (s : State)

theorem failAttempt_demand :
    (failAttempt s).demand = { s.demand with start := false, attempt := none, lockout := true } := by
  simp only [failAttempt]
  split <;> rfl

theorem failAttempt_startFail : flagOf (failAttempt s) .startFail = true := by
  simp only [failAttempt]
  split
  · rw [flagOf_raise, flagOf_congr (State.setLs_port _ _)]
    simp
  · simp

/-- The attempt of a STARTING set ends OFFLINE with UNIT raised (R58). -/
theorem failAttempt_unit (h : s.ls.unit = .starting) :
    (failAttempt s).ls.unit = .offline ∧ flagOf (failAttempt s) .unit = true := by
  simp only [failAttempt]
  split
  · exact ⟨rfl, by simp⟩
  · next other => exact absurd h other

/-- Before the stop test of the expiry that ends the attempt: the lockout keeps the set from a new start (R84, R91). -/
theorem beforeStop_fails (h : s.attemptEnds = true) :
    beforeStop s = failAttempt s ∨ beforeStop s = needCounted (failAttempt s) := by
  have fails : attemptWork s = failAttempt s := if_pos h
  unfold beforeStop
  rw [fails]
  split
  · exact .inr (startDecision_lockout _ (by rw [failAttempt_demand]))
  · exact .inl rfl

end Attempt

/-! ### The other blocks' work at an expiry, as the demand unit's results meet it -/

section OtherParts

/-- What all parts but one keep holds at the end of a run without that one. -/
theorem foldl_keeps_without {α β : Type} (f : β → α → β) (part : α) (J : β → Prop)
    (after : ∀ b q, q ≠ part → J b → J (f b q)) : ∀ (l : List α) (b : β), part ∉ l → J b → J (l.foldl f b)
  | [], _, _, hb => hb
  | q :: rest, b, hl, hb => by
    rw [List.mem_cons, not_or] at hl
    exact foldl_keeps_without f part J after rest _ hl.2 (after b q (Ne.symm hl.1) hb)

/-- An order that names a part first: what that part makes and the others keep holds in the end. -/
theorem foldl_wholeOrder_first {α β : Type} [DecidableEq α] (f : β → α → β) (all rest : List α) (part : α) (hall : all.Nodup)
    (J : β → Prop) (after : ∀ b q, q ≠ part → J b → J (f b q)) (b : β) (there : J (f b part)) :
    J ((wholeOrder all (part :: rest)).foldl f b) := by
  obtain ⟨l, hl⟩ : ∃ l, wholeOrder all (part :: rest) = part :: l := ⟨_, rfl⟩
  have hn := nodup_wholeOrder all (part :: rest) hall
  rw [hl, List.nodup_cons] at hn
  rw [hl, List.foldl_cons]
  exact foldl_keeps_without f part J after l _ hn.1 there

variable (tieChange : Bool)

theorem expiryPart_demand (part : ExpiryPart) (hp : part ≠ .demand) (r : ExpiryRun) :
    (expiryPart tieChange part r).state.demand = r.state.demand := by
  cases part with
  | demand => exact absurd rfl hp
  | loadShare => simp [expiryPart, ExpiryRun.withState]
  | shed => simp [expiryPart, shedWork, ExpiryRun.withState]
  | link => simp [expiryPart, ExpiryRun.withState]

/-- The load-share unit's work leaves the unit state outside a ramp (R68). -/
theorem loadShareWork_unit (fresh : Bool) (s : State) (hin : s.ls.unit ≠ .rampIn) (hout : s.ls.unit ≠ .rampOut) :
    (loadShareWork fresh s).ls.unit = s.ls.unit := by
  by_cases hg : s.isGenset = true
  · by_cases hw : s.ctl.station.working = true
    · have stands : ramped fresh s = s := by
        rw [ramped, lsAbandon_of s (.inl hout), lsRamp]
        cases hu : s.ls.unit with
        | rampIn => exact absurd hu hin
        | rampOut => exact absurd hu hout
        | offline | starting | online | tripped => rfl
      obtain ⟨⟨hunit, -⟩, -⟩ := loadShareWork_stands fresh s hg hw (fun h => by rw [stands] at h; exact hin h.1)
        (tripDue_of_not_rampOut _ (by rw [stands]; exact hout))
      rw [hunit, stands]
    · rw [loadShareWork, if_pos hg, if_neg hw, sendActuator_ls s hg]
  · rw [loadShareWork, if_neg hg]

/-- Without a cut rank no relief is under way (R103, R106). -/
theorem effectiveDeficit_uncut (s : State) (h : s.shed.cut = 0) : s.effectiveDeficit = s.view.sums.d := by
  have none_below : s.view.sums.groups.filter (fun e => e.gives && decide (0 < e.rank) && decide (e.rank ≤ 0)) = [] := by
    rw [List.filter_eq_nil_iff]
    intro e _ he
    simp only [Bool.and_eq_true, decide_eq_true_eq] at he
    omega
  rw [State.effectiveDeficit, pendingRelief, relief, h, none_below]
  simp [total]

/-- Step 3 of R119 may zero the restore timer, and may evaluate the capacity rule after it. -/
theorem capacityWork_cases (s : State) :
    ∃ x, (x = s ∨ x = zeroRestore s) ∧ (capacityWork tieChange s = x ∨ capacityWork tieChange s = evaluateCapacity x) := by
  refine ⟨if tieChange then zeroRestore s else s, by cases tieChange <;> simp, ?_⟩
  by_cases h : (if tieChange then zeroRestore s else s).ctl.station = .run ∧
      ((if tieChange then zeroRestore s else s).shed.settle = none ∨ tieChange = true)
  · exact .inr (if_pos h)
  · exact .inl (if_neg h)

theorem evaluateCapacity_noDeficit (s : State) (h : s.effectiveDeficit ≤ 0) : evaluateCapacity s = s :=
  if_neg fun hd => by omega

/-- The capacity rule reaches the load-share unit by abandoning a ramp-out alone (R78, R106). -/
theorem capacityWork_ls (s : State) (h : s.ls.unit ≠ .rampOut) : (capacityWork tieChange s).ls = s.ls := by
  obtain ⟨x, hx, hwork⟩ := capacityWork_cases tieChange s
  have same : x.ls = s.ls := by rcases hx with rfl | rfl <;> rfl
  rcases hwork with e | e
  · rw [e, same]
  · rw [e, (follows_evaluateCapacity x).unit (by rw [same]; exact h), same]

/-- Without a deficit the capacity rule changes neither the load-share unit nor the cut rank (R106). -/
theorem capacityWork_noDeficit (s : State) (h : s.effectiveDeficit ≤ 0) :
    (capacityWork tieChange s).ls = s.ls ∧ (capacityWork tieChange s).shed.cut = s.shed.cut := by
  obtain ⟨x, hx, hwork⟩ := capacityWork_cases tieChange s
  obtain ⟨hls, hcut, hdeficit⟩ : x.ls = s.ls ∧ x.shed.cut = s.shed.cut ∧ x.effectiveDeficit = s.effectiveDeficit := by
    rcases hx with rfl | rfl <;> exact ⟨rfl, rfl, rfl⟩
  have still : capacityWork tieChange s = x := by
    rcases hwork with e | e
    · exact e
    · rw [e, evaluateCapacity_noDeficit x (by rw [hdeficit]; exact h)]
  rw [still]
  exact ⟨hls, hcut⟩

/-- The ladder is a feeder station's (R109). -/
theorem ladderWork_genset (s : State) (h : s.isFeeder = false) : ladderWork s = s := by
  unfold ladderWork
  split
  · rfl
  · exact if_pos h

theorem ladderWork_ls (s : State) (h : s.ls.unit ≠ .rampOut) : (ladderWork s).ls = s.ls := by
  unfold ladderWork
  split
  · rfl
  · split
    · rfl
    · split
      · rfl
      · split
        · exact (follows_ladderTest _).unit h
        · rfl

/-- No restoration step is due without a cut rank (R116). -/
theorem restoreWork_uncut (s : State) (h : s.shed.cut = 0) : (restoreWork s).shed.cut = 0 := by
  have never : s.restoreDue = false := by simp [State.restoreDue, State.restoreHolds, h]
  unfold restoreWork
  rw [never]
  split
  · exact h
  · exact h

/-- The shed unit's work leaves the load-share unit outside RAMP-OUT (R78). -/
theorem shedWork_ls (r : ExpiryRun) (h : r.state.ls.unit ≠ .rampOut) :
    (shedWork tieChange r).state.ls = r.state.ls := by
  have counted : (countSettle (rememberLoads r.state)).ls = r.state.ls := by simp
  have evaluated := (capacityWork_ls tieChange _ (by rw [counted]; exact h)).trans counted
  show (restoreWork _).ls = _
  rw [restoreWork_ls, ladderWork_ls _ (by rw [evaluated]; exact h), evaluated]

/-- On a genset station without a deficit the shed unit leaves a ramp-out and the cut rank 0 as they stand (R78, R106). -/
theorem shedWork_noDeficit (r : ExpiryRun) (hg : r.state.isGenset = true) (hcut : r.state.shed.cut = 0)
    (hd : r.state.view.sums.d ≤ 0) :
    (shedWork tieChange r).state.ls = r.state.ls ∧ (shedWork tieChange r).state.shed.cut = 0 := by
  have counted : (countSettle (rememberLoads r.state)).shed.cut = 0 := by
    rw [← hcut]
    unfold countSettle rememberLoads
    split <;> rfl
  have noDeficit : (countSettle (rememberLoads r.state)).effectiveDeficit ≤ 0 := by
    rw [effectiveDeficit_uncut _ counted]
    simpa using hd
  have genset : (capacityWork tieChange (countSettle (rememberLoads r.state))).isFeeder = false :=
    isFeeder_of_genset _ (by simpa using (isGenset_iff _).1 hg)
  obtain ⟨hls, hrank⟩ := capacityWork_noDeficit tieChange _ noDeficit
  constructor
  · show (restoreWork _).ls = _
    rw [restoreWork_ls, ladderWork_genset _ genset, hls]
    simp
  · refine restoreWork_uncut _ ?_
    rw [ladderWork_genset _ genset, hrank, counted]

theorem expiryPart_unit (part : ExpiryPart) (hp : part ≠ .demand) (r : ExpiryRun) (hin : r.state.ls.unit ≠ .rampIn)
    (hout : r.state.ls.unit ≠ .rampOut) : (expiryPart tieChange part r).state.ls.unit = r.state.ls.unit := by
  cases part with
  | demand => exact absurd rfl hp
  | loadShare => exact loadShareWork_unit _ _ hin hout
  | shed => rw [expiryPart, shedWork_ls tieChange r hout]
  | link => simp [expiryPart, ExpiryRun.withState]

end OtherParts

/-! ### A start attempt that runs out (R58, R91, R92) -/

section AttemptRunsOut

theorem refreshBias_unit (s : State) (h : s.ls.unit ≠ .rampOut) : (refreshBias s).ls.unit = s.ls.unit := by
  unfold refreshBias
  split
  · rw [abandonRampOut_unit]
    exact if_neg h
  · rfl

/-- The state tests of a working station leave it working, a start attempt as it stands, and the unit state outside RAMP-OUT. -/
theorem testPoint_working (r : ExpiryRun) (hw : r.state.ctl.station.working = true) :
    (testPoint r).state.ctl.station.working = true ∧ (testPoint r).state.demand.attempt = r.state.demand.attempt ∧
    (r.state.ls.unit ≠ .rampOut → (testPoint r).state.ls.unit = r.state.ls.unit) := by
  cases h : r.state.ctl.station <;> simp only [testPoint, h]
  case init => simp [h, StationState.working] at hw
  case standby => simp [h, StationState.working] at hw
  case listen => simp [h, StationState.working] at hw
  case silent => exact ⟨rfl, trivial, fun _ => trivial⟩
  case run =>
    split
    · exact ⟨by simp [ExpiryRun.withState, enterFallback_ctl, StationState.working],
        by simp [ExpiryRun.withState, enterFallback, zeroNeedTimers, zeroRestore],
        fun hu => refreshBias_unit (zeroNeedTimers _) hu⟩
    · exact ⟨by rw [h]; rfl, rfl, fun _ => rfl⟩
  case fallback =>
    split
    · split
      · exact ⟨by simp [ExpiryRun.note, returnToRun_ctl, StationState.working], by simp [ExpiryRun.note, returnToRun],
          fun hu => refreshBias_unit (raise .link _) hu⟩
      · exact ⟨by simp [ExpiryRun.withState, StationState.working], rfl, fun _ => rfl⟩
    · exact ⟨by simp [ExpiryRun.withState, StationState.working], rfl, fun _ => rfl⟩

/-- The attempt of a genset station runs out at this expiry; `wasStarting` says whether its unit is STARTING. -/
structure AttemptRunsOut (wasStarting : Prop) (s : State) : Prop where
  genset : s.isGenset = true
  working : s.ctl.station.working = true
  ends : s.attemptEnds = true
  unit : wasStarting → s.ls.unit = .starting

/-- The attempt has run out: START released, the lockout set, START-FAIL raised, and a STARTING unit OFFLINE. -/
structure AttemptFailed (wasStarting : Prop) (s : State) : Prop where
  start : s.demand.start = false
  attempt : s.demand.attempt = none
  lockout : s.demand.lockout = true
  startFail : flagOf s .startFail = true
  unit : wasStarting → s.ls.unit = .offline ∧ flagOf s .unit = true

variable (wasStarting : Prop)

/-- Work that keeps the flags, and an OFFLINE unit, and does not start the set, keeps what a failed attempt leaves. -/
theorem AttemptFailed.keeps {s t : State} (h : AttemptFailed wasStarting s) (hflags : FlagsKept s t)
    (hstart : t.demand.start = s.demand.start) (hattempt : t.demand.attempt = s.demand.attempt)
    (hlockout : t.demand.lockout = s.demand.lockout) (hunit : s.ls.unit = .offline → t.ls.unit = .offline) :
    AttemptFailed wasStarting t where
  start := hstart.trans h.start
  attempt := hattempt.trans h.attempt
  lockout := hlockout.trans h.lockout
  startFail := hflags _ h.startFail
  unit hw := ⟨hunit (h.unit hw).1, hflags _ (h.unit hw).2⟩

theorem attemptFailed_failAttempt (s : State) (h : wasStarting → s.ls.unit = .starting) :
    AttemptFailed wasStarting (failAttempt s) where
  start := by rw [failAttempt_demand]
  attempt := by rw [failAttempt_demand]
  lockout := by rw [failAttempt_demand]
  startFail := failAttempt_startFail s
  unit hw := failAttempt_unit s (h hw)

theorem attemptFailed_beforeStop (s : State) (h : AttemptRunsOut wasStarting s) :
    AttemptFailed wasStarting (beforeStop s) := by
  have failed := attemptFailed_failAttempt wasStarting s h.unit
  rcases beforeStop_fails s h.ends with e | e <;> rw [e]
  · exact failed
  · exact failed.keeps wasStarting (.of_port rfl) rfl rfl rfl id

theorem attemptFailed_stopWork (s : State) (h : AttemptFailed wasStarting s) : AttemptFailed wasStarting (stopWork s) :=
  h.keeps wasStarting (worked_stopWork s).flags (by rw [stopWork_demand]) (by rw [stopWork_demand]) (by rw [stopWork_demand])
    fun hu => by rw [stopWork_ls s (by rw [hu]; decide), hu]

/-- The demand unit's work ends the attempt and notes it (R91). -/
theorem attemptFailed_demandWork (r : ExpiryRun) (h : AttemptRunsOut wasStarting r.state) :
    AttemptFailed wasStarting (demandWork r).state ∧ .attemptTimeout ∈ (demandWork r).events := by
  have failed := attemptFailed_beforeStop wasStarting r.state h
  have noted : .attemptTimeout ∈ (r.note (beforeStop r.state) r.state.attemptEnds .attemptTimeout).events := by
    rw [h.ends]
    exact List.mem_append_right _ (List.mem_singleton.2 rfl)
  simp only [demandWork]
  rw [if_pos ⟨h.genset, h.working⟩]
  split
  · exact ⟨attemptFailed_stopWork wasStarting _ failed, ExpiryRun.mem_note _ _ _ _ _ (ExpiryRun.mem_note _ _ _ _ _ noted)⟩
  · exact ⟨failed, noted⟩

variable (order : List ExpiryPart) (s : State)

/-- Up to the test point, and through its state tests, the settings outside the tunables stand (R154). -/
theorem testPoint_settings :
    (testPoint { state := atTestPoint s, events := [] }).state.ctl.straps = s.ctl.straps ∧
    (testPoint { state := atTestPoint s, events := [] }).state.ctl.cfg.startTimeout = s.ctl.cfg.startTimeout := by
  obtain ⟨st, listen, fallback, -, hctl⟩ := testPoint_ctl { state := atTestPoint s, events := [] }
  have before : (atTestPoint s).ctl = (applyStaged (s.setCtl { s.ctl with shareTimer := some 0 })).ctl := by
    simp [atTestPoint]
  rw [hctl, before, applyStaged_ctl]
  split <;> exact ⟨rfl, rfl⟩

/-- The state tests come to an attempt that runs out as it stood (R144). -/
theorem attemptRunsOut_testPoint (n : Nat) (hg : s.isGenset = true) (hw : s.ctl.station.working = true)
    (ha : s.demand.attempt = some n) (hn : s.ctl.cfg.startTimeout ≤ n + 1) :
    AttemptRunsOut (s.ls.unit = .starting) (testPoint { state := atTestPoint s, events := [] }).state := by
  obtain ⟨hstraps, htimeout⟩ := testPoint_settings s
  obtain ⟨hstation, -⟩ := atTestPoint_control s
  obtain ⟨working, attempt, unit⟩ := testPoint_working { state := atTestPoint s, events := [] } (by rw [hstation]; exact hw)
  refine ⟨by rw [State.isGenset, hstraps]; exact hg, working, ?_, fun hu => ?_⟩
  · rw [State.attemptEnds, attempt, atTestPoint_demand, ha, htimeout]
    exact decide_eq_true hn
  · rw [unit (by rw [atTestPoint_ls, hu]; decide), atTestPoint_ls, hu]

/-- The whole expiry ends the attempt, whatever the order of its work (R91). -/
theorem expiryRun_attemptFailed (h : AttemptRunsOut wasStarting (testPoint { state := atTestPoint s, events := [] }).state) :
    AttemptFailed wasStarting (expiryRun order s).state ∧ .attemptTimeout ∈ (expiryRun order s).events := by
  refine foldl_wholeOrder (fun r part => expiryPart (s.tieChangesTo (atTestPoint s)) part r) ExpiryPart.all order .demand
    (by decide) (by decide) (fun r : ExpiryRun => AttemptRunsOut wasStarting r.state)
    (fun r => AttemptFailed wasStarting r.state ∧ ExpiryEvent.attemptTimeout ∈ r.events)
    (fun r part hp hr => ?_) (fun r hr => attemptFailed_demandWork wasStarting r hr) (fun r part hp hr => ?_) _ h
  · have demand := expiryPart_demand (s.tieChangesTo (atTestPoint s)) part hp r
    have ctl := expiryPart_ctl (s.tieChangesTo (atTestPoint s)) part r
    refine ⟨by rw [State.isGenset, ctl]; exact hr.genset, by rw [ctl]; exact hr.working,
      by rw [State.attemptEnds, demand, ctl]; exact hr.ends, fun hw => ?_⟩
    have unit := hr.unit hw
    rw [expiryPart_unit _ part hp r (by rw [unit]; decide) (by rw [unit]; decide), unit]
  · obtain ⟨failed, noted⟩ := hr
    have demand := expiryPart_demand (s.tieChangesTo (atTestPoint s)) part hp r
    refine ⟨failed.keeps wasStarting (worked_expiryPart _ part r).flags (by rw [demand]) (by rw [demand]) (by rw [demand])
      fun hu => ?_, mem_events_expiryPart _ part r _ noted⟩
    rw [expiryPart_unit _ part hp r (by rw [hu]; decide) (by rw [hu]; decide), hu]

end AttemptRunsOut

/-! ### The set started at this expiry (R88) -/

section Starts

/-- The set is STARTING with START asserted, the attempt at 0 and UNIT raised. -/
structure JustStarted (s : State) : Prop where
  unit : s.ls.unit = .starting
  start : s.demand.start = true
  attempt : s.demand.attempt = some 0
  flag : flagOf s .unit = true

theorem JustStarted.keeps {s t : State} (h : JustStarted s) (hflags : FlagsKept s t) (hunit : t.ls.unit = s.ls.unit)
    (hstart : t.demand.start = s.demand.start) (hattempt : t.demand.attempt = s.demand.attempt) : JustStarted t :=
  ⟨hunit.trans h.unit, hstart.trans h.start, hattempt.trans h.attempt, hflags _ h.flag⟩

theorem justStarted_startDecision (s : State) (hw : startWanted s s.nextStartNeed) (hc : ownChosen s) :
    JustStarted (startDecision s) := by
  rw [startDecision_starts s hw hc]
  exact ⟨rfl, rfl, rfl, by simp⟩

/-- The demand unit's work in RUN: attempt, start decision and stop test, with the stop need's end and the request's taking noted
(R95). -/
theorem demandWork_run (r : ExpiryRun) (hg : r.state.isGenset = true) (hr : r.state.ctl.station = .run) :
    (demandWork r).state = stopWork (beforeStop r.state) ∧
    ((beforeStop r.state).stopDue = true → .stopNeed ∈ (demandWork r).events ∧
      ((beforeStop r.state).rampOutTaken = true → .rampOutTaken ∈ (demandWork r).events)) := by
  have station : (beforeStop r.state).ctl.station = .run := by rw [beforeStop_ctl, hr]
  simp only [demandWork]
  rw [if_pos ⟨hg, by rw [hr]; rfl⟩, if_pos station]
  refine ⟨rfl, fun hdue => ⟨?_, fun htaken => ?_⟩⟩
  · refine ExpiryRun.mem_note _ _ _ _ _ ?_
    rw [hdue]
    exact List.mem_append_right _ (List.mem_singleton.2 rfl)
  · rw [hdue, htaken]
    exact List.mem_append_right _ (List.mem_singleton.2 rfl)

theorem justStarted_demandWork (r : ExpiryRun) (hg : r.state.isGenset = true) (hr : r.state.ctl.station = .run)
    (h : JustStarted (beforeStop r.state)) : JustStarted (demandWork r).state := by
  rw [(demandWork_run r hg hr).1]
  exact h.keeps (worked_stopWork _).flags (by rw [stopWork_ls _ (by rw [h.unit]; decide)]) (by rw [stopWork_demand])
    (by rw [stopWork_demand])

theorem justStarted_expiryPart (tieChange : Bool) (part : ExpiryPart) (hp : part ≠ .demand) (r : ExpiryRun)
    (h : JustStarted r.state) : JustStarted (expiryPart tieChange part r).state := by
  have demand := expiryPart_demand tieChange part hp r
  refine h.keeps (worked_expiryPart _ part r).flags ?_ (by rw [demand]) (by rw [demand])
  exact expiryPart_unit _ part hp r (by rw [h.unit]; decide) (by rw [h.unit]; decide)

end Starts

/-! ### The ramp-out begun at this expiry (R73, R93, R94) -/

section RampsOut

/-- The ramp-out from a load was taken at this expiry, and no deficit, cut rank or feeder's ladder is there to end it. -/
structure JustRampedOut (p : Int) (r : ExpiryRun) : Prop where
  genset : r.state.isGenset = true
  working : r.state.ctl.station.working = true
  unit : r.state.ls.unit = .rampOut
  p0 : r.state.ls.p0 = some p
  tripFailed : r.state.ls.tripFailed = false
  stopNeed : r.state.demand.stopNeed = 0
  flag : flagOf r.state .unit = true
  uncut : r.state.shed.cut = 0
  noDeficit : r.state.view.sums.d ≤ 0
  taken : .rampOutTaken ∈ r.events
  noted : .stopNeed ∈ r.events

/-- The load-share unit leaves a ramp-out just taken as it stands, but for TRIP (R73). -/
theorem loadShareWork_justRampedOut (s : State) (hg : s.isGenset = true) (hw : s.ctl.station.working = true)
    (hu : s.ls.unit = .rampOut) (hf : s.ls.tripFailed = false) (hd : s.view.sums.d ≤ 0) :
    (loadShareWork true s).ls.unit = .rampOut ∧ (loadShareWork true s).ls.p0 = s.ls.p0 ∧
    (loadShareWork true s).ls.tripFailed = false := by
  have stands : ramped true s = s := by rw [ramped_rampOut true s hu hd, if_neg (by simp [hf]), if_pos (.inl rfl)]
  obtain ⟨waits, trips⟩ := loadShareWork_rampOut true s hg hw (by rw [stands]; exact hu)
  cases hdue : (ramped true s).tripDue with
  | false =>
    obtain ⟨unit, -, p0, -, -, -, failed⟩ := waits hdue
    rw [stands] at unit p0 failed
    exact ⟨unit.trans hu, p0, failed.trans hf⟩
  | true =>
    obtain ⟨unit, -, p0, -, -, -, failed⟩ := trips hdue
    rw [stands] at unit p0 failed
    exact ⟨unit.trans hu, p0, failed.trans hf⟩

/-- What the other blocks' work does to the set and the cut rank where a ramp-out was just taken (R73, R78). -/
theorem expiryPart_rampOut (tieChange : Bool) (part : ExpiryPart) (hp : part ≠ .demand) (p : Int) (r : ExpiryRun)
    (h : JustRampedOut p r) :
    (expiryPart tieChange part r).state.ls.unit = .rampOut ∧ (expiryPart tieChange part r).state.ls.p0 = some p ∧
    (expiryPart tieChange part r).state.ls.tripFailed = false ∧ (expiryPart tieChange part r).state.shed.cut = 0 := by
  cases part with
  | demand => exact absurd rfl hp
  | loadShare =>
    obtain ⟨unit, p0, failed⟩ := loadShareWork_justRampedOut r.state h.genset h.working h.unit h.tripFailed h.noDeficit
    simp only [expiryPart, ExpiryRun.withState, decide_eq_true h.taken]
    exact ⟨unit, p0.trans h.p0, failed, by rw [loadShareWork_shed]; exact h.uncut⟩
  | shed =>
    obtain ⟨ls, cut⟩ := shedWork_noDeficit tieChange r h.genset h.uncut h.noDeficit
    rw [expiryPart, ls]
    exact ⟨h.unit, h.p0, h.tripFailed, cut⟩
  | link =>
    simp only [expiryPart, ExpiryRun.withState, linkWork_ls, linkWork_shed]
    exact ⟨h.unit, h.p0, h.tripFailed, h.uncut⟩

theorem justRampedOut_expiryPart (tieChange : Bool) (part : ExpiryPart) (hp : part ≠ .demand) (p : Int) (r : ExpiryRun)
    (h : JustRampedOut p r) : JustRampedOut p (expiryPart tieChange part r) := by
  obtain ⟨unit, p0, failed, cut⟩ := expiryPart_rampOut tieChange part hp p r h
  have ctl := expiryPart_ctl tieChange part r
  exact
    { genset := by rw [State.isGenset, ctl]; exact h.genset
      working := by rw [ctl]; exact h.working
      unit := unit
      p0 := p0
      tripFailed := failed
      stopNeed := by rw [expiryPart_demand tieChange part hp r]; exact h.stopNeed
      flag := (worked_expiryPart tieChange part r).flags _ h.flag
      uncut := cut
      noDeficit := by rw [expiryPart_view]; exact h.noDeficit
      taken := mem_events_expiryPart tieChange part r _ h.taken
      noted := mem_events_expiryPart tieChange part r _ h.noted }

/-- The stop need's end with the request taken begins the ramp-out from the load of that moment (R73, R94). -/
theorem stopWork_rampsOut (s : State) (hd : s.stopDue = true) (ht : s.rampOutTaken = true) :
    stopWork s = raise .unit ((s.setDemand { s.demand with stopNeed := 0 }).setLs { s.ls with
      unit := .rampOut, p0 := some s.pOwn, k := 0, target := some s.pOwn, tripFailed := false }) := by
  rw [stopWork_due s hd]
  exact if_pos ht

theorem justRampedOut_demandWork (r : ExpiryRun) (hg : r.state.isGenset = true) (hr : r.state.ctl.station = .run)
    (hdue : (beforeStop r.state).stopDue = true) (htaken : (beforeStop r.state).rampOutTaken = true)
    (hd : (beforeStop r.state).view.sums.d ≤ 0) : JustRampedOut (beforeStop r.state).pOwn (demandWork r) := by
  have ctl := beforeStop_ctl r.state
  obtain ⟨-, -, -, -, uncut, -⟩ := stopHolds_of_due _ hdue
  obtain ⟨state, events⟩ := demandWork_run r hg hr
  rw [stopWork_rampsOut _ hdue htaken] at state
  exact
    { genset := by rw [state]; simpa [State.isGenset, ctl] using hg
      working := by rw [state]; simp [hr, StationState.working]
      unit := by rw [state]; rfl
      p0 := by rw [state]; rfl
      tripFailed := by rw [state]; rfl
      stopNeed := by rw [state]; rfl
      flag := by rw [state]; simp
      uncut := by rw [state]; exact uncut
      noDeficit := by rw [state]; exact hd
      taken := (events hdue).2 htaken
      noted := (events hdue).1 }

end RampsOut

/-! ### The stop condition leaves no deficit (R47, R49, R93) -/

section NoDeficit

/-- The own capacity contribution is one value on the bus for the same settings and means, and 0 off the bus (R47). -/
theorem ownCapacity_nonneg {s t : State} (hg : s.isGenset = true) (hb : s.ls.unit.onBus = true)
    (hintake : t.intake = s.intake) (hp : t.ctl.cfg.pRated = s.ctl.cfg.pRated) (hl : t.ctl.cfg.capLimit = s.ctl.cfg.capLimit)
    (h : 0 ≤ s.ownCapacity) : 0 ≤ t.ownCapacity := by
  rw [State.ownCapacity, if_pos ⟨hg, hb⟩] at h
  unfold State.ownCapacity
  rw [hintake, hp, hl]
  split
  · exact h
  · exact Int.le_refl 0

/-- The stop condition with stop_pct at most 90 percent leaves no deficit (R93). -/
theorem noDeficit_of_stopHolds (u : State) (h : stopHolds u) (hpct : u.ctl.cfg.tun.stopPct ≤ 9000)
    (hd : u.view.sums.d = u.view.sums.l - u.view.sums.c) (hown : 0 ≤ u.view.sums.ownCapacity) : u.view.sums.d ≤ 0 := by
  obtain ⟨-, -, -, -, -, -, spare, below⟩ := h
  have light := load_lt_of_roundDiv_lt _ _ spare (lt_of_lt_of_le below hpct)
  omega

/-- The state that an expiry forms its sums from (R52). -/
def beforeSums (s : State) : State :=
  dropTest (viewBeforeSums (closePeriod (applyStaged (s.setCtl { s.ctl with shareTimer := some 0 }))))

theorem atTestPoint_eq (s : State) : atTestPoint s = formSums (beforeSums s) := rfl

/-- The stop need's end at an expiry leaves no deficit in the sums of that expiry (R47, R49, R93). -/
theorem noDeficit_beforeStop (s u : State) (hg : s.isGenset = true)
    (hu : u = beforeStop (testPoint { state := atTestPoint s, events := [] }).state) (hdue : u.stopDue = true)
    (hpct : u.ctl.cfg.tun.stopPct ≤ 9000) (hown : 0 ≤ u.ownCapacity) : u.view.sums.d ≤ 0 := by
  obtain ⟨st, listen, fallback, -, hctl⟩ := testPoint_ctl { state := atTestPoint s, events := [] }
  obtain ⟨-, hstraps, -⟩ := atTestPoint_control s
  have view : u.view = (atTestPoint s).view := by rw [hu, beforeStop_view, testPoint_view]
  have intake : u.intake = (beforeSums s).intake := by
    rw [hu, beforeStop_intake, testPoint_intake, atTestPoint_eq, formSums_intake]
  have ctl : u.ctl = { (atTestPoint s).ctl with station := st, listenCount := listen, fallbackCount := fallback } := by
    rw [hu, beforeStop_ctl, hctl]
  have holds := stopHolds_of_due u hdue
  have genset : u.isGenset = true := by
    rw [State.isGenset, ctl, hstraps]
    exact hg
  have contribution : 0 ≤ (beforeSums s).ownCapacity :=
    ownCapacity_nonneg genset (by rw [holds.1.1]; rfl) intake.symm (by rw [ctl]; rfl) (by rw [ctl]; rfl) hown
  exact noDeficit_of_stopHolds u holds hpct (by rw [view]; rfl) (by rw [view]; exact contribution)

end NoDeficit

/-! ### The demand unit's expiries (R58, R73, R84 to R94) -/

section Expiries

variable (rest : List ExpiryPart) (s u : State)

/-- A genset station reaches the demand unit's work, first after the test point, as the state tests left it. -/
theorem isGenset_testPoint (hg : s.isGenset = true) :
    (testPoint { state := atTestPoint s, events := [] }).state.isGenset = true := by
  rw [State.isGenset, (testPoint_settings s).1]
  exact hg

theorem expiryRun_justRampedOut (hg : s.isGenset = true)
    (hu : u = beforeStop (testPoint { state := atTestPoint s, events := [] }).state) (hr : u.ctl.station = .run)
    (hdue : u.stopDue = true) (htaken : u.rampOutTaken = true) (hpct : u.ctl.cfg.tun.stopPct ≤ 9000)
    (hown : 0 ≤ u.ownCapacity) : JustRampedOut u.pOwn (expiryRun (.demand :: rest) s) := by
  have hd := noDeficit_beforeStop s u hg hu hdue hpct hown
  subst hu
  rw [beforeStop_ctl] at hr
  exact foldl_wholeOrder_first _ ExpiryPart.all rest .demand (by decide) (JustRampedOut _)
    (fun r part hp h => justRampedOut_expiryPart _ part hp _ r h) _
    (justRampedOut_demandWork _ (isGenset_testPoint s hg) hr hdue htaken hd)

theorem expiryRun_justStarted (hg : s.isGenset = true)
    (hu : u = attemptWork (testPoint { state := atTestPoint s, events := [] }).state) (hr : u.ctl.station = .run)
    (hw : startWanted u (startDecision u).demand.startNeed) (hc : ownChosen u) :
    JustStarted (expiryRun (.demand :: rest) s).state := by
  rw [startDecision_startNeed] at hw
  have started := justStarted_startDecision u hw hc
  subst hu
  rw [attemptWork_ctl] at hr
  exact foldl_wholeOrder_first _ ExpiryPart.all rest .demand (by decide) (fun r => JustStarted r.state)
    (fun r part hp h => justStarted_expiryPart _ part hp r h) _
    (justStarted_demandWork _ (isGenset_testPoint s hg) hr (by rw [beforeStop, if_pos hr]; exact started))

end Expiries

/-- Settles O31: the attempt and the two decisions of the demand unit, each followed through the other blocks' work. -/
theorem demandTimersEnd : Obligations.DemandTimersEnd := by
  unfold Obligations.DemandTimersEnd
  refine ⟨fun order s n hg hw ha hn => ?_, fun rest s u hg hactive hu hr hdue htaken hpct hown => ?_, fun s t ht => ?_,
    fun rest s u hg hactive hu hr hwanted hc => ?_,
    fun s => ⟨stopCondition_iff s, stopWork_counts s, stopWork_clears s⟩⟩
  · obtain ⟨failed, noted⟩ := expiryRun_attemptFailed _ order s (attemptRunsOut_testPoint s n hg hw ha hn)
    have active : s.ctl.station.active = true := by
      cases h : s.ctl.station <;> simp_all [StationState.working, StationState.active]
    have whole := namedExpiry_of_event order s .attemptTimeout active noted
    exact ⟨(expiryRun order s).state, by rw [← whole]; rfl, failed.start, failed.attempt, failed.lockout,
      failed.startFail, failed.unit⟩
  · have ramped := expiryRun_justRampedOut rest s u hg hu hr hdue htaken hpct hown
    have whole := namedExpiry_of_event (.demand :: rest) s .stopNeed hactive ramped.noted
    exact ⟨(expiryRun (.demand :: rest) s).state, by rw [← whole]; rfl, ramped.unit, ramped.p0,
      ramped.stopNeed, ramped.flag⟩
  · subst ht
    rw [startDecision_startNeed]
    refine ⟨rfl, fun hw hc => ?_, startDecision_waits s⟩
    obtain ⟨unit, start, attempt, flag⟩ := justStarted_startDecision s hw hc
    refine ⟨unit, start, attempt, flag, ?_⟩
    rw [startDecision_starts s hw hc]
    simp [Kept]
  · have started := expiryRun_justStarted rest s u hg hu hr hwanted hc
    rw [exec_shareTimerExpiry, if_pos hactive]
    exact ⟨_, rfl, started.unit, started.start, started.attempt, started.flag⟩

end Machine
end Sys2Proof

/-! Proofs. The cut rank and the shed outputs through every command and every step (R98 to R104): most work leaves both, or
moves a group between states of the same output; a change of the cut rank moves each output with it; a reset and the end of INIT
set them anew. -/

namespace Sys2Proof
namespace Machine

open Safety

/-! ### What keeps the shed outputs (R97, R98) -/

/-- Work that leaves the cut rank a rank and each output as the cut rank asks, where they were so before. -/
def KeepsShed (s t : State) : Prop := shedOk s → shedOk t

theorem KeepsShed.refl (s : State) : KeepsShed s s := id

theorem KeepsShed.trans {s t u : State} (h : KeepsShed s t) (k : KeepsShed t u) : KeepsShed s u := k ∘ h

theorem KeepsShed.ite {s t : State} {c : Prop} [Decidable c] (h : c → KeepsShed s t) :
    KeepsShed s (if c then t else s) := by
  split
  · next hc => exact h hc
  · exact .refl s

/-- The same role, the same present groups and the same ranks: what R98 reads beside the cut rank. -/
structure RanksStand (s t : State) : Prop where
  role : t.ctl.straps.role = s.ctl.straps.role
  present : t.ctl.cfg.present = s.ctl.cfg.present
  rank : t.ctl.cfg.rank = s.ctl.cfg.rank

theorem RanksStand.of_ctl {s t : State} (h : t.ctl = s.ctl) : RanksStand s t := by
  constructor <;> rw [h]

theorem RanksStand.groupPresent {s t : State} (h : RanksStand s t) (g : GroupNo) : t.groupPresent g = s.groupPresent g := by
  simp only [State.groupPresent, State.isFeeder, h.role, h.present]

theorem RanksStand.outputAt {s t : State} (h : RanksStand s t) (cut : Nat) (g : GroupNo) :
    t.outputAt cut g = s.outputAt cut g := by
  simp only [State.outputAt, h.groupPresent, h.rank]

/-- A group's output stands, and the group is ABSENT as before. -/
def OutputStands (before after : Group) : Prop :=
  (after.state = .absent ↔ before.state = .absent) ∧ after.output = before.output

theorem OutputStands.refl (g : Group) : OutputStands g g := ⟨.rfl, rfl⟩

/-- Work that leaves the ranks, the cut rank and each group's output. -/
theorem KeepsShed.of_stands {s t : State} (ranks : RanksStand s t) (hcut : t.shed.cut = s.shed.cut)
    (groups : ∀ g : GroupNo, OutputStands s.shed.groups[g] t.shed.groups[g]) : KeepsShed s t := by
  intro ⟨hle, hgroups⟩
  refine ⟨by rw [hcut]; exact hle, fun g => ?_⟩
  obtain ⟨habsent, houtput⟩ := groups g
  obtain ⟨labsent, loutput⟩ := hgroups g
  rw [habsent, houtput, hcut, ranks.groupPresent, ranks.outputAt]
  exact ⟨labsent, loutput⟩

/-- Work that leaves the ranks, the cut rank and the groups. -/
theorem KeepsShed.of_ranks {s t : State} (ranks : RanksStand s t) (hcut : t.shed.cut = s.shed.cut)
    (hgroups : t.shed.groups = s.shed.groups) : KeepsShed s t :=
  .of_stands ranks hcut fun g => by rw [hgroups]; exact .refl _

/-- Work that leaves station control and the shed unit. -/
theorem KeepsShed.of_eq {s t : State} (hctl : t.ctl = s.ctl) (hshed : t.shed = s.shed) : KeepsShed s t :=
  .of_ranks (.of_ctl hctl) (by rw [hshed]) (by rw [hshed])

/-! ### Changes of the cut rank (R98, R99, R104) -/

/-- An output is asserted at a cut rank only for a group that is present (R98). -/
theorem groupPresent_of_outputAt {s : State} {cut : Nat} {g : GroupNo} (h : s.outputAt cut g = true) :
    s.groupPresent g = true := by
  simp only [State.outputAt, Bool.and_eq_true] at h
  exact h.1.1

/-- At a change of the cut rank a group stays present or ABSENT, and its output comes to the level of the new cut rank. -/
theorem groupsAtCut_spec (s : State) (cut : Nat) (g : GroupNo) (h : shedOk s) :
    ((s.groupsAtCut cut)[g].state = .absent ↔ s.groupPresent g = false) ∧
    (s.groupsAtCut cut)[g].output = s.outputAt cut g := by
  obtain ⟨-, hgroups⟩ := h
  obtain ⟨habsent, houtput⟩ := hgroups g
  have present {c : Nat} (hc : s.outputAt c g = true) : s.shed.groups[g].state ≠ .absent := fun ha => by
    rw [groupPresent_of_outputAt hc] at habsent
    exact absurd (habsent.1 ha) (by decide)
  cases after : s.outputAt cut g <;> cases before : s.outputAt s.shed.cut g
  case true.false =>
    have crossed : (s.groupsAtCut cut)[g] = s.shed.groups[g].assertOutput := by simp [State.groupsAtCut, after, before]
    rw [crossed, Group.assertOutput_absent]
    exact ⟨habsent, Group.assertOutput_output _ (present after)⟩
  case false.true =>
    have crossed : (s.groupsAtCut cut)[g] = s.shed.groups[g].releaseOutput := by simp [State.groupsAtCut, after, before]
    rw [crossed, Group.releaseOutput_absent]
    exact ⟨habsent, Group.releaseOutput_output _ (present before)⟩
  all_goals
    have stands : (s.groupsAtCut cut)[g] = s.shed.groups[g] := by simp [State.groupsAtCut, after, before]
    rw [stands]
    exact ⟨habsent, houtput.trans before⟩

/-- A change of the cut rank to a rank, with its output events. -/
theorem KeepsShed.of_cut {s t : State} {cut : Nat} (hctl : t.ctl = s.ctl) (hcut : t.shed.cut = cut)
    (hgroups : t.shed.groups = s.groupsAtCut cut) (hle : s.shed.cut ≤ 15 → cut ≤ 15) : KeepsShed s t := by
  intro ok
  have ranks : RanksStand s t := .of_ctl hctl
  refine ⟨by rw [hcut]; exact hle ok.1, fun g => ?_⟩
  rw [hcut, hgroups, ranks.groupPresent, ranks.outputAt]
  exact groupsAtCut_spec s cut g ok

theorem keepsShed_increaseCut (cut : Nat) (cause : Option ShedCause) (s : State) (hle : cut ≤ 15) :
    KeepsShed s (increaseCut cut cause s) :=
  .of_cut (by simp) (by rw [increaseCut_shed]; rfl) (by rw [increaseCut_shed]; rfl) fun _ => hle

theorem keepsShed_restoreOne (s : State) : KeepsShed s (restoreOne s) :=
  .of_cut (cut := s.shed.cut - 1) rfl (by rw [restoreOne_shed]) (by rw [restoreOne_shed]) fun h => by omega

theorem keepsShed_evaluateCapacity (s : State) : KeepsShed s (evaluateCapacity s) :=
  .ite fun h => keepsShed_increaseCut _ _ s (ruleRank_bounds s h.2).2

theorem keepsShed_evaluateInRun (s : State) : KeepsShed s (evaluateInRun s) := .ite fun _ => keepsShed_evaluateCapacity s

theorem keepsShed_ladderTest (s : State) : KeepsShed s (ladderTest s) :=
  .ite fun h => keepsShed_increaseCut _ _ s (by simp [State.ladderHolds] at h; omega)

theorem keepsShed_deadEntry (s : State) : KeepsShed s (deadEntry s) :=
  .ite fun _ => keepsShed_increaseCut _ _ s (Nat.le_refl _)

/-- A SHED ALERT's cut rank is a rank (R114, R175). -/
theorem keepsShed_adopt (cut : Nat) (inIsland : Bool) (s : State) (hle : cut ≤ 15) : KeepsShed s (adopt cut inIsland s) :=
  .ite fun _ => keepsShed_increaseCut _ _ s hle

/-! ### Groups after their breakers' news (R100) -/

theorem outputStands_readsClosed (g : Group) : OutputStands g g.readsClosed := by
  by_cases ha : g.state = .absent
  · simp [Group.readsClosed, ha, OutputStands]
  · rw [readsClosed_eq g ha]
    split
    · simp [OutputStands, ha]
    · split
      · exact .refl g
      · simp [OutputStands, ha]

theorem outputStands_readsOpen (g : Group) : OutputStands g g.readsOpen := by
  by_cases ha : g.state = .absent
  · simp [Group.readsOpen, ha, OutputStands]
  · rw [readsOpen_eq g ha]
    split <;> simp [OutputStands, ha]

theorem outputStands_faults (g : Group) : OutputStands g g.faults := by
  by_cases ha : g.state = .absent
  · simp [Group.faults, ha, OutputStands]
  · rw [faults_eq g ha]
    simp [OutputStands, ha]

theorem outputStands_afterNews (n : BreakerNews) (g : Group) : OutputStands g (g.afterNews n) := by
  unfold Group.afterNews
  split
  · exact outputStands_faults g
  · split
    · cases n.reading with
      | closed => exact outputStands_readsClosed g
      | opened => exact outputStands_readsOpen g
      | transit => exact .refl g
      | discrepant => exact .refl g
    · exact .refl g

/-- One group replaced by one of the same output (R100, R101). -/
theorem keepsShed_setGroup {s t : State} (g : GroupNo) (x : Group) (hctl : t.ctl = s.ctl)
    (hshed : t.shed = { s.shed with groups := s.shed.groups.set g x }) (h : OutputStands s.shed.groups[g] x) :
    KeepsShed s t := by
  refine .of_stands (.of_ctl hctl) (by rw [hshed]) fun i => ?_
  rw [hshed]
  by_cases hi : g = i
  · subst hi
    simpa using h
  · have other : (s.shed.groups.set g x)[i] = s.shed.groups[i] := by simp [Fin.val_inj, hi]
    rw [other]
    exact .refl _

/-! ### The tie state, the sums and one accepted sample (R3, R44, R52) -/

theorem keepsShed_deriveTieNow (s : State) : KeepsShed s (deriveTieNow s) := by
  unfold deriveTieNow
  split
  · exact .refl s
  · exact .trans (.of_ranks (.of_ctl (by simp)) (by simp [zeroRestore]) (by simp [zeroRestore])) (keepsShed_evaluateInRun _)

theorem keepsShed_deriveIf (c : Bool) (s : State) : KeepsShed s (deriveIf c s) := .ite fun _ => keepsShed_deriveTieNow s

theorem keepsShed_immediateSums (s : State) : KeepsShed s (immediateSums s) :=
  .trans (.of_eq (by simp) (by simp)) (keepsShed_evaluateInRun _)

theorem keepsShed_handGroupBreakers (ns : Vector BreakerNews 8) (s : State) : KeepsShed s (handGroupBreakers ns s) := by
  refine .of_stands (.of_ctl (by simp)) (by rw [handGroupBreakers_shed]) fun g => ?_
  rw [handGroupBreakers_shed]
  simpa using outputStands_afterNews ns[g] s.shed.groups[g]

theorem keepsShed_handUfSet (s : State) : KeepsShed s (handUfSet s) := by
  unfold handUfSet
  split
  · exact (keepsShed_ladderTest s).trans (.of_ranks (.of_ctl rfl) rfl rfl)
  · exact .of_eq (by simp) (by simp)

theorem keepsShed_handPart (n : SampleNews) (part : SamplePart) (s : State) : KeepsShed s (handPart n part s) := by
  cases part with
  | breakers => exact .trans (.of_eq (by simp) (by simp)) (keepsShed_handGroupBreakers _ _)
  | tie => exact .trans (.of_eq (by simp) (by simp)) (.ite fun _ => keepsShed_deriveTieNow _)
  | ufShed => exact .ite fun _ => keepsShed_handUfSet s
  | ufTrigger => exact .ite fun _ => .of_eq (by simp) (by simp)
  | dead => exact .ite fun _ => keepsShed_deadEntry s
  | row => exact .of_eq (by simp [handPart]) (by simp [handPart])

theorem keepsShed_acceptSample (x : Sample) (order : List SamplePart) (s : State) : KeepsShed s (acceptSample x order s) :=
  foldl_keeps _ (KeepsShed s) (fun t part h => h.trans (keepsShed_handPart _ part t)) _ _
    (.of_eq (by simp) (by simp))

/-! ### The cut rank of a SHED ALERT (R32, R175) -/

/-- A SHED ALERT's cut rank is a rank. -/
def AlertRanked (f : Frame) : Prop := ∀ cut cause, f.body = .alert (.shed cut cause) → cut ≤ 15

/-- The number that bits spell fits their count. -/
theorem bitsNat_lt (bits : List Bool) : bitsNat bits < 2 ^ bits.length := by
  induction bits using List.reverseRecOn with
  | nil => decide
  | append_singleton bits b ih =>
    have spelled : bitsNat (bits ++ [b]) = 2 * bitsNat bits + bit b := by simp [bitsNat]
    have one : bit b ≤ 1 := by cases b <;> decide
    rw [spelled, List.length_append, List.length_singleton, Nat.pow_succ]
    omega

/-- A receiver reads a SHED ALERT's cut rank from four bits. -/
theorem readBody_shed_cut (cls : Nat) (b : List Bool) (cut : Nat) (cause : ShedCause)
    (h : readBody cls b = .alert (.shed cut cause)) : cut ≤ 15 := by
  unfold readBody at h
  split at h
  · simp at h
  · obtain ⟨rfl, -⟩ : bitsAt b 0 4 = cut ∧ causeOfCode (bitsAt b 4 2) = cause := by simpa using h
    have fits := bitsNat_lt ((b.drop 0).take 4)
    have short : 2 ^ ((b.drop 0).take 4).length ≤ 2 ^ 4 := Nat.pow_le_pow_right (by decide) (List.length_take_le _ _)
    unfold bitsAt
    omega
  · simp at h
  · simp at h

theorem alertRanked_readRegion (region : List Bool) (f : Frame) (h : readRegion region = .valid f) : AlertRanked f := by
  simp only [readRegion] at h
  split at h
  · rw [← Reception.valid.inj h]
    exact fun cut cause hbody => readBody_shed_cut _ _ cut cause hbody
  · cases h

theorem alertRanked_receiveEnd (region : List Bool) (f : Frame) (left : Nat) :
    ∀ line : List Bool, receiveEnd region left line = .valid f → AlertRanked f := by
  induction left with
  | zero => exact fun line h => alertRanked_readRegion region f h
  | succ left ih =>
    intro line h
    cases line with
    | nil => cases h
    | cons b rest =>
      rw [receiveEnd] at h
      split at h
      · exact ih rest h
      · cases h

theorem alertRanked_receiveRegion (f : Frame) (line : List Bool) :
    ∀ (region : List Bool) (last : Bool) (run : Nat), receiveRegion region last run line = .valid f → AlertRanked f := by
  induction line with
  | nil => exact fun region last run h => by cases h
  | cons b rest ih =>
    intro region last run h
    rw [receiveRegion] at h
    split at h
    · split at h
      · cases h
      · split at h
        · exact alertRanked_receiveEnd region f 8 rest h
        · exact ih _ _ _ h
    · split at h
      · exact alertRanked_receiveEnd region f 8 (b :: rest) h
      · exact ih _ _ _ h

/-- Every frame that the receive path takes is so. -/
theorem alertRanked_receive (line : List Bool) (f : Frame) (h : receive line = .valid f) : AlertRanked f := by
  unfold receive at h
  split at h
  · cases h
  · cases h
  · exact alertRanked_receiveRegion f _ _ _ _ h

/-! ### Frame arrivals (R34, R38, R39, R40, R114) -/

theorem keepsShed_tripSums (f : Frame) (ratedKw p : Int) (s : State) : KeepsShed s (tripSums f ratedKw p s) :=
  have viewed : KeepsShed s (tripView f ratedKw p s) := .of_eq rfl rfl
  viewed.trans ((keepsShed_deriveIf _ _).trans (keepsShed_immediateSums _))

theorem keepsShed_arriveTrip (f : Frame) (ratedKw p : Int) (captureFirst : Bool) (s : State) :
    KeepsShed s (arriveTrip f ratedKw p captureFirst s) := by
  have offered (t : State) : KeepsShed t (offerTrigger .tripHeard t) := .of_eq (by simp) (by simp)
  have raised : KeepsShed s (raise .tripHeard s) := .of_eq rfl rfl
  unfold arriveTrip
  split
  · exact raised.trans ((offered _).trans (keepsShed_tripSums f ratedKw p _))
  · exact raised.trans ((keepsShed_tripSums f ratedKw p _).trans (offered _))

theorem keepsShed_arrive (f : Frame) (captureFirst : Bool) (s : State) (hf : AlertRanked f) :
    KeepsShed s (arrive f captureFirst s) := by
  have entered (v : View) : KeepsShed s (s.setView v) := .of_eq rfl rfl
  unfold arrive
  split
  · split
    · exact (entered _).trans (keepsShed_deriveIf _ _)
    · exact (entered _).trans (keepsShed_deriveTieNow _)
    · exact keepsShed_arriveTrip f _ _ captureFirst s
    · next cut cause hbody => exact (entered _).trans (keepsShed_adopt _ _ _ (hf cut cause hbody))
  · have linked : KeepsShed s (raiseIf (newlyIncompatible (findPeer s.view.peers f.source)) .link
        (enterPeer (incompatibleEntry f (findPeer s.view.peers f.source)) s)) := .of_eq (by simp) (by simp)
    exact linked.trans (keepsShed_deriveIf _ _)

/-! ### Moves between station states (R145 to R150) -/

/-- The entry to FALLBACK sets nothing of the shed unit but the restore timer (R116, R148). -/
theorem keepsShed_transmitFailure (s : State) : KeepsShed s (transmitFailure s) := by
  refine .ite fun _ => .of_ranks ⟨?_, ?_, ?_⟩ ?_ ?_ <;> simp [enterFallback, zeroNeedTimers, zeroRestore]

theorem keepsShed_addressClash (s : State) : KeepsShed s (addressClash s) := by
  have silent (t : State) : KeepsShed t (enterSilent t) := by
    refine .of_ranks ⟨?_, ?_, ?_⟩ ?_ ?_ <;> simp only [enterSilent] <;> split <;> simp [zeroNeedTimers, zeroRestore]
  exact .ite fun _ => .trans (.of_eq (raise_ctl .clash s) (raise_shed .clash s)) (silent _)

/-- STANDBY entry stops the confirm timers and keeps the outputs (R120). -/
theorem keepsShed_enterStandbyState (s : State) : KeepsShed s (enterStandbyState s) := by
  refine .of_stands ?_ (by rw [enterStandbyState_shed]; rfl) fun g => ?_
  · constructor <;> rw [enterStandbyState_ctl] <;> rfl
  · rw [enterStandbyState_shed]
    simp [Shed.standby, OutputStands]

theorem keepsShed_enterListen (s : State) : KeepsShed s (enterListen s) := by
  refine .of_ranks ⟨?_, ?_, ?_⟩ ?_ ?_ <;> simp [enterListen, zeroNeedTimers, zeroRestore]

/-- After a reset no group is present, and every one is ABSENT (R98, R121). -/
theorem shedOk_resetStation (pins : Straps) (cut : StoreCut) (s : State) : shedOk (resetStation pins cut s) := by
  obtain ⟨hctl, -, -, -, -, hshed, -⟩ := resetStation_blocks pins cut s
  unfold shedOk State.outputAt State.groupPresent
  rw [hctl, hshed]
  simp [Shed.reset, Group.absentGroup, Control.reset, Settings.faultSet]

/-! ### The end of INIT (R142) -/

/-- A record in range holds a rank for each group (R177). -/
theorem rank_of_recordInRange (r : List Byte) (h : recordInRange r = true) (g : GroupNo) :
    fieldAt r (39 + g.val) 1 ≤ 15 := by
  have ranks : (List.range 8).all (fun g => within (fieldAt r (39 + g) 1) 0 15) = true := by
    by_contra bad
    rw [Bool.not_eq_true] at bad
    simp only [recordInRange, bad, Bool.and_false, Bool.false_and] at h
    exact absurd h (by decide)
  have inRange := List.all_eq_true.1 ranks g.val (List.mem_range.2 g.isLt)
  simpa [within] using inRange

/-- A field within the bytes kept reads the same (R177). -/
theorem fieldAt_take (bytes : List Byte) (n pos len : Nat) (h : pos + len ≤ n) :
    fieldAt (bytes.take n) pos len = fieldAt bytes pos len := by
  rw [fieldAt, fieldAt, List.drop_take, List.take_take, Nat.min_eq_left (by omega)]

/-- A rank of the configuration that INIT takes is a rank (R142, R143, R177). -/
theorem takenConfig_rank (c : Control) (g : GroupNo) : c.takenConfig.rank[g] ≤ 15 := by
  unfold Control.takenConfig
  split
  · simp [Settings.faultSet]
  · next fails =>
    have inRange : recordInRange c.stored = true := by
      by_contra bad
      rw [Bool.not_eq_true] at bad
      exact fails (by simp [Control.recordFails, recordFaulty, bad])
    have kept : 39 + g.val + 1 ≤ recordLength := by rw [recordLength]; omega
    simpa [parseSettings, fieldAt_take _ recordLength _ 1 kept] using rank_of_recordInRange c.stored inRange g

/-- At the end of INIT each present group's output stands at the level of cut rank 15 (R98, R121). -/
theorem shedOk_endInit (s : State) : shedOk (endInit s) := by
  have hctl : (endInit s).ctl = s.ctl.endInit := by simp [endInit]
  have hshed : (endInit s).shed = initialShed s.ctl.straps.role s.ctl.takenConfig := by
    simp [endInit, Control.endInit]
  unfold shedOk State.outputAt State.groupPresent State.isFeeder
  rw [hctl, hshed]
  refine ⟨Nat.le_refl _, fun g => ?_⟩
  have rank := takenConfig_rank s.ctl g
  have group : (initialShed s.ctl.straps.role s.ctl.takenConfig).groups[g] =
      initialGroup s.ctl.straps.role s.ctl.takenConfig g := by simp [initialShed]
  rw [group, initialGroup]
  simp only [Control.endInit]
  split
  · next present => split <;> simp_all [initialShed, Shed.reset]
  · next absent => simp_all [initialShed, Shed.reset, Group.absentGroup]

/-! ### The share link's commands (R23, R28, R29) -/

theorem keepsShed_setLink (x : Link) (s : State) : KeepsShed s (s.setLink x) := .of_eq rfl rfl

theorem keepsShed_errFrame (fl : Flight) (s : State) : KeepsShed s (errFrame fl s) := by
  rw [errFrame_def]
  split
  · exact (keepsShed_setLink (s.link.erred fl) s).trans (keepsShed_transmitFailure _)
  · exact keepsShed_setLink (s.link.erred fl) s

theorem keepsShed_endFlight (fl : Flight) (line : List Bool) (s : State) : KeepsShed s (endFlight fl line s) := by
  unfold endFlight
  cases fl.judge line with
  | lost => exact keepsShed_setLink _ s
  | sent => exact keepsShed_errFrame fl s
  | erred => exact keepsShed_errFrame fl s

theorem keepsShed_dropFrame (line : List Bool) (n : Nat) (s : State) : KeepsShed s (dropFrame line n s) := by
  unfold dropFrame
  cases s.link.flight with
  | none => exact keepsShed_setLink _ s
  | some fl => exact (keepsShed_endFlight fl line s).trans (keepsShed_setLink _ _)

theorem keepsShed_takeFrame (f : Frame) (captureFirst : Bool) (s : State) (hf : AlertRanked f) :
    KeepsShed s (takeFrame f captureFirst s) := by
  unfold takeFrame
  split
  · exact keepsShed_addressClash s
  · exact keepsShed_arrive f captureFirst s hf

theorem keepsShed_validFrame (line : List Bool) (f : Frame) (captureFirst : Bool) (s : State) (hf : AlertRanked f) :
    KeepsShed s (validFrame line f captureFirst s) := by
  have taken (t : State) (h : KeepsShed s t) : KeepsShed s (takeFrame f captureFirst (endReception 0 t)) :=
    h.trans ((keepsShed_setLink _ t).trans (keepsShed_takeFrame f captureFirst _ hf))
  unfold validFrame
  cases s.link.flight with
  | none => exact taken s (.refl s)
  | some fl =>
    cases hj : fl.judge line with
    | sent => simp only [hj]; exact (keepsShed_setLink _ s).trans (keepsShed_setLink _ _)
    | lost => simp only [hj]; exact taken _ (keepsShed_setLink _ s)
    | erred => simp only [hj]; exact taken _ (keepsShed_errFrame fl s)

theorem keepsShed_frameReceived (line : List Bool) (captureFirst : Bool) (s : State) :
    Machine.Answers (KeepsShed s) (execFrameReceived line captureFirst s) := by
  unfold execFrameReceived
  split
  · cases hline : receive line with
    | incomplete => exact answers_next (.refl s)
    | dropped n => exact answers_next (keepsShed_dropFrame line n s)
    | valid f => exact answers_next (keepsShed_validFrame line f captureFirst s (alertRanked_receive line f hline))
  · exact answers_next (keepsShed_setLink _ s)

theorem keepsShed_transmitError (s : State) : Machine.Answers (KeepsShed s) (execTransmitError s) := by
  intro t e
  rcases execTransmitError_cases s t e with ⟨-, rfl⟩ | ⟨fl, -, ⟨-, rfl⟩ | ⟨-, rfl, -⟩⟩
  · exact .refl _
  · exact keepsShed_errFrame fl s
  · exact (keepsShed_errFrame fl s).trans (keepsShed_setLink _ _)

theorem keepsShed_frameStart (s : State) : Machine.Answers (KeepsShed s) (execFrameStart s) := by
  unfold execFrameStart
  split
  · cases s.offer with
    | none => exact answers_next (.refl s)
    | some x => exact answers_next (.of_eq rfl rfl)
  · exact answers_next (.refl s)

theorem keepsShed_arbitrationLoss (s : State) : Machine.Answers (KeepsShed s) (execArbitrationLoss s) := by
  unfold execArbitrationLoss
  cases s.link.flight with
  | none => exact answers_next (.refl s)
  | some fl => exact answers_next (.of_eq rfl rfl)

/-! ### Intake's commands -/

theorem keepsShed_sampleArrival (bytes : List Byte) (order : List SamplePart) (s : State) :
    Machine.Answers (KeepsShed s) (execSampleArrival bytes order s) := by
  unfold execSampleArrival
  split
  · cases parseSample s.ctl.straps.role bytes with
    | none => exact answers_next (.refl s)
    | some x => exact answers_next (keepsShed_acceptSample x order s)
  · exact answers_next (.refl s)

theorem keepsShed_transitTimeout (b : Breaker) (s : State) :
    Machine.Answers (KeepsShed s) (execTransitTimeout b s) := by
  cases b with
  | set => exact answers_ite (.refl s) fun _ => .of_eq rfl rfl
  | group g => exact answers_ite (.refl s) fun _ => keepsShed_setGroup g _ rfl rfl (outputStands_faults _)
  | tie => exact answers_ite (.refl s) fun _ => .trans (.of_eq (by simp) (by simp)) (keepsShed_deriveTieNow _)

/-- A group whose confirm timer runs out keeps its output; it was SHEDDING, and not ABSENT (R101). -/
theorem keepsShed_confirmTimeout (g : GroupNo) (s : State) :
    Machine.Answers (KeepsShed s) (execConfirmTimeout g s) := by
  refine answers_ite (.refl s) fun due => keepsShed_setGroup g _ rfl rfl ⟨⟨fun h => (nomatch h), fun h => ?_⟩, rfl⟩
  obtain ⟨shedding, -⟩ := (confirmDue_iff s g).1 due
  exact absurd (shedding.symm.trans h) (by decide)

/-! ### A share-timer expiry (R144) -/

/-- The remembered loads are all that step 1 of R119 writes: no other field of the shed unit, and no output (R102). -/
theorem rememberLoads_shed (s : State) :
    ∃ groups, (rememberLoads s).shed = { s.shed with groups := groups } ∧
      ∀ g : GroupNo, OutputStands s.shed.groups[g] groups[g] := by
  unfold rememberLoads
  split
  · refine ⟨_, rfl, fun g => ?_⟩
    simp only [Fin.getElem_fin, Vector.getElem_ofFn]
    split
    · exact ⟨.rfl, rfl⟩
    · exact .refl _
  · exact ⟨s.shed.groups, rfl, fun g => .refl _⟩

theorem keepsShed_rememberLoads (s : State) : KeepsShed s (rememberLoads s) := by
  obtain ⟨groups, hshed, stands⟩ := rememberLoads_shed s
  refine .of_stands (.of_ctl (rememberLoads_ctl s)) (by rw [hshed]) fun g => ?_
  rw [hshed]
  exact stands g

theorem keepsShed_capacityWork (tieChange : Bool) (s : State) : KeepsShed s (capacityWork tieChange s) := by
  have zeroed : KeepsShed s (if tieChange then zeroRestore s else s) := .ite fun _ => .of_ranks (.of_ctl rfl) rfl rfl
  exact zeroed.trans (.ite fun _ => keepsShed_evaluateCapacity _)

theorem keepsShed_ladderWork (s : State) : KeepsShed s (ladderWork s) := by
  have timed (step : Option Nat) : KeepsShed s (s.setShed { s.shed with step := step }) := .of_ranks (.of_ctl rfl) rfl rfl
  unfold ladderWork
  split
  · exact .refl s
  · split
    · exact .refl s
    · split
      · exact timed _
      · split
        · exact (timed _).trans (keepsShed_ladderTest _)
        · exact timed _

theorem keepsShed_restoreWork (s : State) : KeepsShed s (restoreWork s) := by
  unfold restoreWork
  split
  · split
    · exact keepsShed_restoreOne s
    · exact .of_ranks (.of_ctl rfl) rfl rfl
  · exact .refl s

theorem keepsShed_shedWork (tieChange : Bool) (r : ExpiryRun) : KeepsShed r.state (shedWork tieChange r).state := by
  have counted : KeepsShed (rememberLoads r.state) (countSettle (rememberLoads r.state)) := .of_ranks (.of_ctl rfl) rfl rfl
  exact (keepsShed_rememberLoads _).trans (counted.trans ((keepsShed_capacityWork tieChange _).trans
    ((keepsShed_ladderWork _).trans (keepsShed_restoreWork _))))

/-- After the test point the shed unit's work alone reaches the shed unit. -/
theorem expiryPart_shed (tieChange : Bool) (part : ExpiryPart) (hp : part ≠ .shed) (r : ExpiryRun) :
    (expiryPart tieChange part r).state.shed = r.state.shed := by
  cases part with
  | shed => exact absurd rfl hp
  | loadShare => simp [expiryPart, ExpiryRun.withState]
  | demand =>
    simp only [expiryPart, demandWork]
    split
    · split <;> simp [ExpiryRun.withState, ExpiryRun.note]
    · rfl
  | link => simp [expiryPart, ExpiryRun.withState]

theorem keepsShed_expiryPart (tieChange : Bool) (part : ExpiryPart) (r : ExpiryRun) :
    KeepsShed r.state (expiryPart tieChange part r).state := by
  by_cases hp : part = .shed
  · rw [hp]; exact keepsShed_shedWork tieChange r
  · exact .of_eq (expiryPart_ctl tieChange part r) (expiryPart_shed tieChange part hp r)

/-- The state tests reach no more of the shed unit than its restore timer (R116). -/
theorem testPoint_shed (r : ExpiryRun) :
    ∃ restore, (testPoint r).state.shed = { r.state.shed with restore := restore } := by
  cases h : r.state.ctl.station <;> simp only [testPoint, h]
  case listen => split <;> exact ⟨r.state.shed.restore, by simp [ExpiryRun.note, ExpiryRun.withState]⟩
  case run =>
    split
    · exact ⟨0, by simp [ExpiryRun.withState, enterFallback, zeroNeedTimers, zeroRestore]⟩
    · exact ⟨r.state.shed.restore, rfl⟩
  case fallback =>
    split
    · split <;> exact ⟨r.state.shed.restore, by simp [ExpiryRun.note, ExpiryRun.withState]⟩
    · exact ⟨r.state.shed.restore, rfl⟩
  all_goals exact ⟨r.state.shed.restore, rfl⟩

/-- Up to the test point, and through its state tests, the straps and every setting but the tunables stand (R152, R154). -/
theorem testPoint_structural (s : State) :
    (testPoint { state := atTestPoint s, events := [] }).state.ctl.straps = s.ctl.straps ∧
    ∃ tun, (testPoint { state := atTestPoint s, events := [] }).state.ctl.cfg = { s.ctl.cfg with tun := tun } := by
  obtain ⟨st, listen, fallback, -, hctl⟩ := testPoint_ctl { state := atTestPoint s, events := [] }
  have before : (atTestPoint s).ctl = (applyStaged (s.setCtl { s.ctl with shareTimer := some 0 })).ctl := by
    simp [atTestPoint]
  rw [hctl, before, applyStaged_ctl]
  split <;> exact ⟨rfl, _, rfl⟩

theorem keepsShed_expiryRun (order : List ExpiryPart) (s : State) : KeepsShed s (expiryRun order s).state := by
  obtain ⟨straps, tun, cfg⟩ := testPoint_structural s
  obtain ⟨restore, shed⟩ := testPoint_shed { state := atTestPoint s, events := [] }
  refine foldl_keeps _ (fun r => KeepsShed s r.state) (fun r part h => h.trans (keepsShed_expiryPart _ part r)) _ _ ?_
  refine .of_ranks ⟨by rw [straps], by rw [cfg], by rw [cfg]⟩ ?_ ?_ <;> rw [shed] <;> simp

/-! ### The service port -/

theorem keepsShed_resetStation (pins : Straps) (cut : StoreCut) (s : State) : KeepsShed s (resetStation pins cut s) :=
  fun _ => shedOk_resetStation pins cut s

theorem keepsShed_endSelect (s : State) : KeepsShed s (endSelect s) := by
  unfold endSelect
  split
  · exact (keepsShed_resetStation s.ctl.pins .before s).trans (.of_eq rfl rfl)
  · exact .of_eq rfl rfl

theorem keepsShed_effect (c : Service) (fields : List Byte) (s : State) : KeepsShed s (c.effect fields s) := by
  cases c with
  | enterStandby => exact .ite fun _ => keepsShed_enterStandbyState s
  | resume => exact keepsShed_enterListen s
  | stage =>
    show KeepsShed s (stageEffect fields s)
    unfold stageEffect
    split
    · exact .refl s
    · exact .of_ranks ⟨by simp, by simp, by simp⟩ (by simp) (by simp)
  | clearTrip => exact .of_eq (by simp [Service.effect]) (by simp [Service.effect])
  | forceCapture => exact .of_eq (by simp [Service.effect]) (by simp [Service.effect])
  | _ => exact .of_ranks ⟨rfl, rfl, rfl⟩ rfl rfl

theorem keepsShed_serve (code : Byte) (fields : List Byte) (s : State) : KeepsShed s (serve code fields s) := by
  have ended := keepsShed_endSelect s
  unfold serve answerCommand
  split
  · split
    · exact ended
    · next c _ => exact ended.trans ((keepsShed_effect c fields _).trans (.of_eq rfl rfl))
  · exact ended.trans (.of_eq rfl rfl)

theorem keepsShed_statusReadClear (s : State) : Machine.Answers (KeepsShed s) (execStatusReadClear s) := by
  unfold execStatusReadClear
  split
  · cases s.ctl.cfg.ackMode <;> exact answers_next (.of_eq rfl rfl)
  · exact answers_next (.refl s)

theorem keepsShed_storeCompletion (s : State) : Machine.Answers (KeepsShed s) (execStoreCompletion s) := by
  unfold execStoreCompletion
  split
  · exact answers_next (.refl s)
  · have ranks : RanksStand s (raise .storeDone (s.setCtl s.ctl.storeDone)) := by
      constructor <;> simp [storeDone_straps, storeDone_cfg]
    exact answers_next (.of_ranks ranks rfl rfl)

/-! ### Every command and every step -/

/-- Every command keeps the cut rank and the shed outputs. -/
theorem exec_keepsShed (c : Instr) (s : State) : Machine.Answers (KeepsShed s) (exec c s) := by
  have named (e : ExpiryEvent) (order : List ExpiryPart) : KeepsShed s (namedExpiry e order s) :=
    .ite fun _ => keepsShed_expiryRun order s
  cases c with
  | reset pins cut => exact answers_next (keepsShed_resetStation pins cut s)
  | restartReset pins => exact answers_ite (.refl s) fun _ => keepsShed_resetStation pins .before s
  | endOfInit => exact answers_ite (.refl s) fun _ _ => shedOk_endInit s
  | sampleArrival bytes order => exact keepsShed_sampleArrival bytes order s
  | measureTimerHeld => exact answers_ite (.refl s) fun _ => .of_eq rfl rfl
  | measureTimerFault =>
    exact answers_ite (.refl s) fun _ => .trans (.of_eq (by simp) (by simp)) (keepsShed_deriveTieNow _)
  | transitTimeout b => exact keepsShed_transitTimeout b s
  | shareTimerExpiry order => exact answers_next (.ite fun _ => keepsShed_expiryRun order s)
  | listenEnd order => exact answers_next (named _ order)
  | fallbackExit order => exact answers_next (named _ order)
  | startAttemptTimeout order => exact answers_next (named _ order)
  | stopNeedExpiry order => exact answers_next (named _ order)
  | settleTimerExpiry order => exact answers_next (named _ order)
  | ladderStep order => exact answers_next (named _ order)
  | restorationStep order => exact answers_next (named _ order)
  | confirmTimeout g => exact keepsShed_confirmTimeout g s
  | tripTimeout => exact answers_ite (.refl s) fun _ => .of_eq rfl rfl
  | stopPulseEnd => exact answers_ite (.refl s) fun _ => .of_eq rfl rfl
  | timeTagWrap => exact answers_ite (.refl s) fun _ => .of_eq rfl rfl
  | attentionPulseEnd => exact answers_ite (.refl s) fun _ => .of_eq rfl rfl
  | lineIdle => exact answers_ite (.refl s) fun _ => .of_eq rfl rfl
  | lineBusy => exact answers_next (.of_eq rfl rfl)
  | frameStart => exact keepsShed_frameStart s
  | arbitrationLoss => exact keepsShed_arbitrationLoss s
  | transmitError => exact keepsShed_transmitError s
  | frameReceived line captureFirst => exact keepsShed_frameReceived line captureFirst s
  | readoutComplete => exact answers_ite (.refl s) fun _ => .of_eq (by simp) (by simp)
  | statusReadClear => exact keepsShed_statusReadClear s
  | storeCompletion => exact keepsShed_storeCompletion s
  | selectDeassert => exact answers_next (keepsShed_endSelect s)
  | _ => exact answers_next (keepsShed_serve _ _ s)

/-- A microsecond counts the confirm timers and moves no output. -/
theorem keepsShed_idle (s : State) : KeepsShed s (idle s) := by
  have advanced : KeepsShed s (advance s) := by
    refine .of_stands ⟨rfl, rfl, rfl⟩ rfl fun g => ?_
    simp [advance, Shed.tick, OutputStands]
  rw [idle_eq]
  split
  · exact advanced
  · exact advanced.trans (.of_eq rfl rfl)

/-- Settles O8: each output moves with the cut rank, and no other work moves either of them but a reset and the end of INIT. -/
theorem stepKeepsShedOutputs : Obligations.StepKeepsShedOutputs := by
  unfold Obligations.StepKeepsShedOutputs
  intro s t ok e
  unfold step at e
  cases hq : s.pending with
  | nil => rw [hq] at e; exact answers_next (keepsShed_idle s) t e ok
  | cons c rest => rw [hq] at e; exact exec_keepsShed c { s with pending := rest } t e ok

end Machine
end Sys2Proof

/-! Proofs. The confirm timer, the capacity rule, and the shed unit's work at an expiry, in whatever order the blocks take
theirs (R101 to R119). -/

namespace Sys2Proof
namespace Machine

open Safety

/-! ### The confirm timer (R101) -/

/-- A SHEDDING group's confirm timer at its time fails the group and raises GROUP. -/
theorem exec_confirmTimeout_due (g : GroupNo) (s : State) (h : s.confirmDue g = true) :
    exec (.confirmTimeout g) s = .next (raise .group
      (s.setShed { s.shed with groups := s.shed.groups.set g s.shed.groups[g].confirmFailed })) := if_pos h

/-- No event without a SHEDDING group and its timer at its time (log entry 9). -/
theorem exec_confirmTimeout_not_due (g : GroupNo) (s : State)
    (h : s.shed.groups[g].state = .shedding → ∀ n, s.shed.groups[g].confirm = some n → n < s.ctl.cfg.confirmUs) :
    exec (.confirmTimeout g) s = .next s := by
  refine if_neg fun due => ?_
  obtain ⟨shedding, n, running, reached⟩ := (confirmDue_iff s g).1 due
  exact absurd reached (Nat.not_le.2 (h shedding n running))

/-- Settles O34, by what the confirm timer is due for. -/
theorem confirmTimeoutFailsGroup : Obligations.ConfirmTimeoutFailsGroup := by
  unfold Obligations.ConfirmTimeoutFailsGroup
  intro g s
  refine ⟨fun n shedding running reached => ?_, fun n running early => ?_, fun stopped => ?_, fun other => ?_⟩
  · refine ⟨_, exec_confirmTimeout_due g s ((confirmDue_iff s g).2 ⟨shedding, n, running, reached⟩), ?_, fun h hne => ?_,
      rfl, rfl, rfl, rfl, ⟨rfl, rfl, rfl, rfl⟩, by simp [Kept]⟩
    · simp [Group.confirmFailed]
    · simp [Fin.val_inj, Ne.symm hne]
  · exact exec_confirmTimeout_not_due g s fun _ m hm => by
      obtain rfl : n = m := Option.some.inj (running.symm.trans hm)
      exact early
  · exact exec_confirmTimeout_not_due g s fun _ m hm => by rw [stopped] at hm; cases hm
  · exact exec_confirmTimeout_not_due g s fun shedding => absurd shedding other

/-! ### The capacity rule (R103, R104, R106) -/

/-- An increase of the cut rank starts the settle timer and raises SHED-STEP (R104). -/
theorem increaseCut_spec (cut : Nat) (cause : Option ShedCause) (s : State) (hlt : s.shed.cut < cut) (hle : cut ≤ 15) :
    (increaseCut cut cause s).shed.cut = cut ∧ (increaseCut cut cause s).shed.settle = some 0 ∧
    flagOf (increaseCut cut cause s) .shedStep = true := by
  rw [increaseCut_shed]
  refine ⟨rfl, rfl, ?_⟩
  rcases (follows_increaseCut cut cause s hlt hle).cut with ⟨same, -⟩ | ⟨-, -, -, raised⟩
  · rw [increaseCut_shed] at same
    exact absurd same.symm (Nat.ne_of_lt hlt)
  · exact raised

/-- r* covers the effective deficit unless it is 15, and no rank between the cut rank and r* does (R106). -/
theorem ruleRank_least (s : State) (h : s.shed.cut < 15) :
    (s.ruleRank < 15 → s.effectiveDeficit ≤ relief s.view.sums.groups s.shed.cut s.ruleRank) ∧
    ∀ r, s.shed.cut < r → r < s.ruleRank → relief s.view.sums.groups s.shed.cut r < s.effectiveDeficit := by
  unfold State.ruleRank
  rcases chooseRank_spec s.view.sums.groups s.shed.cut s.effectiveDeficit (15 - s.shed.cut) (s.shed.cut + 1) with
    ⟨x, hx, -, -, covers, least⟩ | ⟨h15, least⟩
  · rw [hx]
    exact ⟨fun _ => covers, fun r hlo hhi => least r hlo hhi⟩
  · rw [h15]
    exact ⟨fun h => absurd h (by decide), fun r hlo hhi => least r hlo (by omega)⟩

/-- Settles O46: the cut rank is increased to r*. -/
theorem capacityRuleTakesLeastRank : Obligations.CapacityRuleTakesLeastRank := by
  unfold Obligations.CapacityRuleTakesLeastRank
  rintro s t rfl
  refine ⟨fun deficit below => ?_, fun h => if_neg (by omega)⟩
  obtain ⟨above, rank⟩ := ruleRank_bounds s below
  obtain ⟨covers, least⟩ := ruleRank_least s below
  obtain ⟨cut, settle, flag⟩ := increaseCut_spec s.ruleRank (some .capacity) s above rank
  rw [evaluateCapacity, if_pos ⟨deficit, below⟩, cut]
  exact ⟨above, rank, covers, least, settle, flag⟩

/-! ### The steps of the shed unit's work (R105 to R119) -/

theorem follows_zeroRestore (s : State) : Follows s (zeroRestore s) := .of_port rfl rfl rfl rfl rfl rfl

theorem follows_capacityWork (tieChange : Bool) (s : State) : Follows s (capacityWork tieChange s) := by
  have zeroed : Follows s (if tieChange then zeroRestore s else s) := .ite fun _ => follows_zeroRestore s
  exact zeroed.trans (.ite fun _ => follows_evaluateCapacity _)

theorem follows_ladderWork (s : State) : Follows s (ladderWork s) := by
  have timed (step : Option Nat) : Follows s (s.setShed { s.shed with step := step }) := .of_port rfl rfl rfl rfl rfl rfl
  unfold ladderWork
  split
  · exact .refl s
  · split
    · exact .refl s
    · split
      · exact timed _
      · split
        · exact (timed _).trans (follows_ladderTest _)
        · exact timed _

/-- Where the settle timer stands stopped after it, the work has left the cut rank and the groups (R104). -/
theorem Follows.of_unsettled {s t : State} (h : Follows s t) (hn : t.shed.settle = none) :
    t.shed.cut = s.shed.cut ∧ t.shed.groups = s.shed.groups := by
  rcases h.cut with ⟨hcut, hgroups, -⟩ | ⟨-, -, started, -⟩
  · exact ⟨hcut, hgroups⟩
  · rw [hn] at started
    cases started

theorem Follows.cut_le {s t : State} (h : Follows s t) : s.shed.cut ≤ t.shed.cut := by
  rcases h.cut with ⟨hcut, -⟩ | ⟨hcut, -⟩ <;> omega

/-- Neither the remembering of loads nor the settle count moves the cut rank or the step timer (R102, R105). -/
theorem countSettle_rememberLoads (s : State) :
    (countSettle (rememberLoads s)).shed.cut = s.shed.cut ∧ (countSettle (rememberLoads s)).shed.step = s.shed.step ∧
    ∀ g : GroupNo, OutputStands s.shed.groups[g] (countSettle (rememberLoads s)).shed.groups[g] := by
  obtain ⟨groups, hshed, stands⟩ := rememberLoads_shed s
  unfold countSettle
  rw [hshed]
  exact ⟨rfl, rfl, stands⟩

/-- Steps 1 to 4 of R119: the shed unit's work at an expiry up to its restore work. -/
def beforeRestore (tieChange : Bool) (s : State) : State :=
  ladderWork (capacityWork tieChange (countSettle (rememberLoads s)))

theorem shedWork_state (tieChange : Bool) (r : ExpiryRun) :
    (shedWork tieChange r).state = restoreWork (beforeRestore tieChange r.state) := rfl

/-- The settle count taken, the work up to the restore work can but raise the cut rank (R103, R104). -/
theorem follows_beforeRestore (tieChange : Bool) (s : State) :
    Follows (countSettle (rememberLoads s)) (beforeRestore tieChange s) :=
  (follows_capacityWork tieChange _).trans (follows_ladderWork _)

/-- At settle_delay the settle timer stops (R105). -/
theorem settle_ends (s : State) (n : Nat) (hn : s.shed.settle = some n) (hd : s.ctl.cfg.settleDelay ≤ n + 1) :
    (rememberLoads s).settleEnds = true ∧ (countSettle (rememberLoads s)).shed.settle = none := by
  obtain ⟨groups, hshed, -⟩ := rememberLoads_shed s
  have ends : (rememberLoads s).settleEnds = true := by
    rw [State.settleEnds, hshed, hn, rememberLoads_ctl]
    exact decide_eq_true hd
  exact ⟨ends, by rw [countSettle, ends]; rfl⟩

theorem evaluateCapacity_step (s : State) : (evaluateCapacity s).shed.step = s.shed.step := by
  unfold evaluateCapacity
  split
  · rw [increaseCut_shed]; rfl
  · rfl

theorem capacityWork_step (tieChange : Bool) (s : State) : (capacityWork tieChange s).shed.step = s.shed.step := by
  obtain ⟨x, hx, hwork⟩ := capacityWork_cases tieChange s
  have same : x.shed.step = s.shed.step := by rcases hx with rfl | rfl <;> rfl
  rcases hwork with e | e
  · rw [e, same]
  · rw [e, evaluateCapacity_step, same]

/-- Outside RUN the capacity rule is not evaluated at an expiry (R107). -/
theorem capacityWork_of_not_run (tieChange : Bool) (s : State) (h : s.ctl.station ≠ .run) :
    (capacityWork tieChange s).shed.cut = s.shed.cut := by
  have zeroed : (if tieChange then zeroRestore s else s).ctl = s.ctl := by cases tieChange <;> rfl
  simp only [capacityWork]
  rw [if_neg fun hrun => h (zeroed ▸ hrun.1)]
  cases tieChange <;> rfl

theorem ladderTest_step (s : State) : (ladderTest s).shed.step = s.shed.step := by
  unfold ladderTest
  split
  · rw [increaseCut_shed]; rfl
  · rfl

/-- At step_delay with UF set the step timer starts again from 0 and the step condition is tested (R109, R111). -/
theorem ladderWork_due (s : State) (n : Nat) (hf : s.isFeeder = true) (hu : s.intake.uf = true) (hn : s.shed.step = some n)
    (hd : s.ctl.cfg.stepDelay ≤ n + 1) :
    s.ladderDue = true ∧ ladderWork s = ladderTest (s.setShed { s.shed with step := some 0 }) := by
  have due : s.ladderDue = true := by simp [State.ladderDue, hn, hf, hu, hd]
  exact ⟨due, by simp [ladderWork, hn, hf, hu, due]⟩

/-- In SILENT coincidence is not asked: the ladder takes a step below cut rank 15, and none at 15 (R110). -/
theorem ladderTest_silent (s : State) (hs : s.ctl.station = .silent) (hu : s.intake.uf = true) :
    (s.shed.cut < 15 → (ladderTest s).shed.cut = s.shed.cut + 1 ∧ (ladderTest s).shed.settle = some 0 ∧
      flagOf (ladderTest s) .shedStep = true) ∧
    (15 ≤ s.shed.cut → ladderTest s = s) := by
  refine ⟨fun below => ?_, fun top => if_neg ?_⟩
  · have holds : s.ladderHolds = true := by simp [State.ladderHolds, hs, hu, below]
    obtain ⟨cut, settle, flag⟩ := increaseCut_spec (s.shed.cut + 1) (some .ladder) s (Nat.lt_succ_self _) below
    rw [ladderTest, if_pos holds]
    exact ⟨cut, settle, flag⟩
  · simp [State.ladderHolds, Nat.not_lt.2 top]

/-- The restore work leaves the settle and the step timer, and where the condition of R116 does not hold the cut rank too. -/
theorem restoreWork_shed (s : State) :
    (restoreWork s).shed.settle = s.shed.settle ∧ (restoreWork s).shed.step = s.shed.step ∧
    (s.restoreHolds = false → (restoreWork s).shed.cut = s.shed.cut) := by
  unfold restoreWork
  split
  · split
    · next due =>
      refine ⟨rfl, rfl, fun fails => ?_⟩
      simp [State.restoreDue, fails] at due
    · exact ⟨rfl, rfl, fun _ => rfl⟩
  · exact ⟨rfl, rfl, fun _ => rfl⟩

/-- A restoration step is due in RUN only, with a rank cut and the settle timer stopped (R116). -/
theorem restoreDue_spec (s : State) (h : s.restoreDue = true) :
    s.ctl.station = .run ∧ 1 ≤ s.shed.cut ∧ s.shed.settle = none := by
  simp only [State.restoreDue, State.restoreHolds, Bool.and_eq_true, decide_eq_true_eq] at h
  tauto

theorem restoreWork_of_due (s : State) (h : s.restoreDue = true) : restoreWork s = restoreOne s := by
  rw [restoreWork, if_pos (restoreDue_spec s h).1, if_pos h]

/-! ### The shed unit among the other blocks (R144) -/

section Among

/-- The expiry `r` has what the shed unit's work `w` has brought about: its shed unit, its flags and its events. -/
structure ShedWorked (w r : ExpiryRun) : Prop where
  shed : r.state.shed = w.state.shed
  flags : FlagsKept w.state r.state
  events : ∀ e ∈ w.events, e ∈ r.events

theorem ShedWorked.refl (w : ExpiryRun) : ShedWorked w w := ⟨rfl, .refl _, fun _ h => h⟩

theorem ShedWorked.expiryPart {w r : ExpiryRun} (h : ShedWorked w r) (tieChange : Bool) (part : ExpiryPart)
    (hp : part ≠ .shed) : ShedWorked w (expiryPart tieChange part r) where
  shed := (expiryPart_shed tieChange part hp r).trans h.shed
  flags := h.flags.trans (worked_expiryPart tieChange part r).flags
  events e he := mem_events_expiryPart tieChange part r e (h.events e he)

variable (order rest : List ExpiryPart) (s : State)

/-- The shed unit taking its work first works on the state that the state tests leave. -/
theorem expiryRun_shed_first :
    ShedWorked (shedWork (s.tieChangesTo (atTestPoint s)) (testPoint { state := atTestPoint s, events := [] }))
      (expiryRun (.shed :: rest) s) :=
  foldl_wholeOrder_first _ ExpiryPart.all rest .shed (by decide) (ShedWorked _)
    (fun _ part hp h => h.expiryPart _ part hp) _ (.refl _)

/-- `r` has the shed unit, station control and intake that the state tests of the expiry of `s` leave. -/
structure ShedUntouched (s : State) (r : ExpiryRun) : Prop where
  shed : r.state.shed = (testPoint { state := atTestPoint s, events := [] }).state.shed
  ctl : r.state.ctl = (testPoint { state := atTestPoint s, events := [] }).state.ctl
  intake : r.state.intake = (atTestPoint s).intake

/-- In every order the shed unit works with the shed unit, station control and intake that the state tests leave. -/
theorem expiryRun_shed :
    ∃ r, ShedUntouched s r ∧ ShedWorked (shedWork (s.tieChangesTo (atTestPoint s)) r) (expiryRun order s) :=
  foldl_wholeOrder (fun r part => expiryPart (s.tieChangesTo (atTestPoint s)) part r) ExpiryPart.all order .shed
    (by decide) (by decide) (ShedUntouched s)
    (fun b => ∃ r, ShedUntouched s r ∧ ShedWorked (shedWork (s.tieChangesTo (atTestPoint s)) r) b)
    (fun r part hp h => ⟨(expiryPart_shed _ part hp r).trans h.shed, (expiryPart_ctl _ part r).trans h.ctl,
      (expiryPart_intake _ part r).trans h.intake⟩)
    (fun r h => ⟨r, h, .refl _⟩) (fun _ part hp ⟨r, h, worked⟩ => ⟨r, h, worked.expiryPart _ part hp⟩)
    _ ⟨rfl, rfl, testPoint_intake _⟩

end Among

/-! ### The settle timer (R104, R105) -/

/-- The settle timer stands stopped, or an increase of the cut rank above `cut` has just started it. -/
def SettledOrRaised (cut : Nat) (s : State) : Prop :=
  s.shed.settle = none ∨ (s.shed.settle = some 0 ∧ cut < s.shed.cut ∧ flagOf s .shedStep = true)

/-- An event is noted under its condition. -/
theorem ExpiryRun.mem_note_self (r : ExpiryRun) (s : State) (cond : Bool) (e : ExpiryEvent) (h : cond = true) :
    e ∈ (r.note s cond e).events := by
  subst h
  exact List.mem_append_right _ (List.mem_singleton.2 rfl)

/-- The shed unit's work at settle_delay. -/
theorem shedWork_settles (tieChange : Bool) (r : ExpiryRun) (n : Nat) (hn : r.state.shed.settle = some n)
    (hd : r.state.ctl.cfg.settleDelay ≤ n + 1) :
    SettledOrRaised r.state.shed.cut (shedWork tieChange r).state ∧ .settled ∈ (shedWork tieChange r).events := by
  obtain ⟨ends, stopped⟩ := settle_ends r.state n hn hd
  obtain ⟨counted, -⟩ := countSettle_rememberLoads r.state
  obtain ⟨settle, -, cut⟩ := restoreWork_shed (beforeRestore tieChange r.state)
  refine ⟨?_, ExpiryRun.mem_note _ _ _ _ _ (ExpiryRun.mem_note _ _ _ _ _ ?_)⟩
  · rcases (follows_beforeRestore tieChange r.state).cut with ⟨-, -, stands⟩ | ⟨above, -, started, flag⟩
    · exact .inl (settle.trans (stands.trans stopped))
    · have waits : (beforeRestore tieChange r.state).restoreHolds = false := by simp [State.restoreHolds, started]
      refine .inr ⟨settle.trans started, ?_, (worked_restoreWork _).flags _ flag⟩
      rw [← counted]
      exact above.trans_eq (cut waits).symm
  · exact ExpiryRun.mem_note_self _ _ _ _ ends

/-- The settle timer's expiry, in every order of the blocks' work. -/
theorem exec_settleTimerExpiry (order : List ExpiryPart) (s : State) (n : Nat) (ha : s.ctl.station.active = true)
    (hn : s.shed.settle = some n) (hd : s.ctl.cfg.settleDelay ≤ n + 1) :
    ∃ t, exec (.settleTimerExpiry order) s = .next t ∧ SettledOrRaised s.shed.cut t := by
  obtain ⟨r, ⟨hshed, hctl, -⟩, worked⟩ := expiryRun_shed order s
  obtain ⟨restore, tested⟩ := testPoint_shed { state := atTestPoint s, events := [] }
  obtain ⟨-, tun, cfg⟩ := testPoint_structural s
  rw [tested, atTestPoint_shed] at hshed
  obtain ⟨ended, noted⟩ := shedWork_settles (s.tieChangesTo (atTestPoint s)) r n (by rw [hshed]; exact hn)
    (by rw [hctl, cfg]; exact hd)
  refine ⟨_, congrArg Host.Outcome.next (namedExpiry_of_event order s .settled ha (worked.events _ noted)), ?_⟩
  unfold SettledOrRaised at ended ⊢
  rw [worked.shed]
  rw [hshed] at ended
  exact ended.imp_right fun ⟨started, above, flag⟩ => ⟨started, above, worked.flags _ flag⟩

/-! ### The ladder (R109, R110, R111) -/

/-- The ladder at step_delay with UF set: the step timer from 0 and the cut rank not below that of `before`; in SILENT a step of
one rank below 15, and none at 15. -/
structure Laddered (before : State) (t : State) : Prop where
  step : t.shed.step = some 0
  cut : before.shed.cut ≤ t.shed.cut
  raised : before.ctl.station = .silent → before.shed.cut < 15 →
    t.shed.cut = before.shed.cut + 1 ∧ t.shed.settle = some 0 ∧ flagOf t .shedStep = true
  stands : before.ctl.station = .silent → 15 ≤ before.shed.cut → t.shed.cut = before.shed.cut

theorem laddered_ladderWork (tieChange : Bool) (s : State) (n : Nat) (hf : s.isFeeder = true) (hu : s.intake.uf = true)
    (hn : s.shed.step = some n) (hd : s.ctl.cfg.stepDelay ≤ n + 1) :
    Laddered s (ladderWork (capacityWork tieChange s)) ∧ (capacityWork tieChange s).ladderDue = true := by
  obtain ⟨due, tests⟩ := ladderWork_due (capacityWork tieChange s) n (by rw [State.isFeeder, capacityWork_ctl]; exact hf)
    (by rw [capacityWork_intake]; exact hu) ((capacityWork_step tieChange s).trans hn) (by rw [capacityWork_ctl]; exact hd)
  have follows := (follows_capacityWork tieChange s).trans (follows_ladderWork _)
  have silent (hs : s.ctl.station = .silent) :=
    ladderTest_silent ((capacityWork tieChange s).setShed { (capacityWork tieChange s).shed with step := some 0 })
      (by simpa using hs) (by simpa using hu)
  have still (hs : s.ctl.station = .silent) : (capacityWork tieChange s).shed.cut = s.shed.cut :=
    capacityWork_of_not_run tieChange s (by rw [hs]; decide)
  refine ⟨⟨by rw [tests, ladderTest_step]; rfl, follows.cut_le, fun hs below => ?_, fun hs top => ?_⟩, due⟩
  · rw [tests, ← still hs]
    exact (silent hs).1 (by rw [← still hs] at below; exact below)
  · rw [tests, (silent hs).2 (by rw [← still hs] at top; exact top)]
    exact still hs

/-- While UF is set no restoration step follows (R116). -/
theorem laddered_shedWork (tieChange : Bool) (r : ExpiryRun) (n : Nat) (hf : r.state.isFeeder = true)
    (hu : r.state.intake.uf = true) (hn : r.state.shed.step = some n) (hd : r.state.ctl.cfg.stepDelay ≤ n + 1) :
    Laddered r.state (shedWork tieChange r).state ∧ .ladder ∈ (shedWork tieChange r).events := by
  obtain ⟨counted, step, -⟩ := countSettle_rememberLoads r.state
  have ctl : (countSettle (rememberLoads r.state)).ctl = r.state.ctl := by simp
  obtain ⟨⟨laddered, above, raised, stands⟩, due⟩ := laddered_ladderWork tieChange _ n
    (by rw [State.isFeeder, ctl]; exact hf) (by simpa using hu) (step.trans hn) (by rw [ctl]; exact hd)
  rw [counted] at above raised stands
  rw [ctl] at raised stands
  have waits : (beforeRestore tieChange r.state).restoreHolds = false := by
    simp [State.restoreHolds, beforeRestore, hu]
  obtain ⟨rsettle, rstep, rcut⟩ := restoreWork_shed (beforeRestore tieChange r.state)
  rw [shedWork_state]
  refine ⟨⟨?_, ?_, fun hs below => ?_, fun hs top => ?_⟩, ExpiryRun.mem_note _ _ _ _ _ ?_⟩
  · rw [rstep]; exact laddered
  · rw [rcut waits]; exact above
  · obtain ⟨cut, settle, flag⟩ := raised hs below
    rw [rcut waits, rsettle]
    exact ⟨cut, settle, (worked_restoreWork _).flags _ flag⟩
  · rw [rcut waits]; exact stands hs top
  · exact ExpiryRun.mem_note_self _ _ _ _ due

/-- The ladder's expiry, in every order of the blocks' work. -/
theorem exec_ladderStep (order : List ExpiryPart) (s : State) (n : Nat) (hf : s.isFeeder = true)
    (ha : s.ctl.station.active = true) (hn : s.shed.step = some n) (hd : s.ctl.cfg.stepDelay ≤ n + 1)
    (hu : s.intake.uf = true) : ∃ t, exec (.ladderStep order) s = .next t ∧ Laddered s t := by
  obtain ⟨r, ⟨hshed, hctl, hintake⟩, worked⟩ := expiryRun_shed order s
  obtain ⟨restore, tested⟩ := testPoint_shed { state := atTestPoint s, events := [] }
  obtain ⟨straps, tun, cfg⟩ := testPoint_structural s
  rw [tested, atTestPoint_shed] at hshed
  have uf : r.state.intake.uf = true := by rw [hintake]; simpa [atTestPoint, closePeriod] using hu
  obtain ⟨⟨step, above, raised, stands⟩, noted⟩ := laddered_shedWork (s.tieChangesTo (atTestPoint s)) r n
    (by rw [State.isFeeder, hctl, straps]; exact hf) uf (by rw [hshed]; exact hn) (by rw [hctl, cfg]; exact hd)
  have silent (hs : s.ctl.station = .silent) : r.state.ctl.station = .silent := by
    have still : (atTestPoint s).ctl.station = .silent := (atTestPoint_control s).1.trans hs
    rw [hctl]
    simp only [testPoint, still]
  rw [hshed] at above raised stands
  refine ⟨_, congrArg Host.Outcome.next (namedExpiry_of_event order s .ladder ha (worked.events _ noted)), ?_⟩
  refine ⟨by rw [worked.shed]; exact step, by rw [worked.shed]; exact above, fun hs below => ?_, fun hs top => ?_⟩
  · obtain ⟨cut, settle, flag⟩ := raised (silent hs) below
    rw [worked.shed]
    exact ⟨cut, settle, worked.flags _ flag⟩
  · rw [worked.shed]
    exact stands (silent hs) top

/-- Settles O32: what the shed unit's work brings about stands at the end of the expiry. -/
theorem shedTimersEnd : Obligations.ShedTimersEnd := by
  unfold Obligations.ShedTimersEnd
  refine ⟨exec_settleTimerExpiry, fun order s n hf ha hn hd hu => ?_⟩
  obtain ⟨t, answered, laddered⟩ := exec_ladderStep order s n hf ha hn hd hu
  exact ⟨t, answered, laddered.step, laddered.cut, laddered.raised, laddered.stands⟩

/-! ### The restoration step (R104, R116, R117) -/

/-- A fall of the cut rank releases the output of each present group whose rank it leaves (R98, R99). -/
theorem groupsAtCut_released (s : State) (cut : Nat) (g : GroupNo) (hp : s.groupPresent g = true)
    (hs : s.shed.groups[g].state ≠ .absent) (hlt : cut < s.ctl.cfg.rank[g]) (hle : s.ctl.cfg.rank[g] ≤ s.shed.cut) :
    (s.groupsAtCut cut)[g].output = false := by
  have ranked : 1 ≤ s.ctl.cfg.rank[g] := by omega
  have before : s.outputAt s.shed.cut g = true := by
    rw [State.outputAt, hp, decide_eq_true ranked, decide_eq_true hle]; rfl
  have after : s.outputAt cut g = false := by
    rw [State.outputAt, decide_eq_false (Nat.not_le.2 hlt), Bool.and_false]
  have left : (s.groupsAtCut cut)[g] = s.shed.groups[g].releaseOutput := by
    simp [State.groupsAtCut, after, before]
  rw [left]
  exact Group.releaseOutput_output _ hs

/-- One rank is restored since `before`: the cut rank one lower, the restore timer 0, RESTORE-STEP raised, and the outputs of
the rank left released. -/
structure Restored (before t : State) : Prop where
  cut : t.shed.cut = before.shed.cut - 1
  ranked : 1 ≤ before.shed.cut
  restore : t.shed.restore = 0
  flag : flagOf t .restoreStep = true
  outputs : ∀ g : GroupNo, before.groupPresent g = true → before.ctl.cfg.rank[g] = before.shed.cut →
    before.shed.groups[g].state ≠ .absent → t.shed.groups[g].output = false

theorem restored_restoreOne (s : State) (h : 1 ≤ s.shed.cut) : Restored s (restoreOne s) := by
  refine ⟨rfl, h, rfl, by simp [restoreOne], fun g hp hrank hs => ?_⟩
  rw [restoreOne_shed]
  exact groupsAtCut_released s _ g hp hs (by omega) (by omega)

/-- The shed unit's work at restore_delay: with the settle timer stopped the cut rank has stood until the step. -/
theorem restored_shedWork (tieChange : Bool) (r : ExpiryRun)
    (h : (beforeRestore tieChange r.state).restoreDue = true) :
    Restored r.state (shedWork tieChange r).state ∧ .restoration ∈ (shedWork tieChange r).events := by
  obtain ⟨counted, -, groups⟩ := countSettle_rememberLoads r.state
  obtain ⟨-, ranked, unsettled⟩ := restoreDue_spec _ h
  obtain ⟨cut, stands⟩ := (follows_beforeRestore tieChange r.state).of_unsettled unsettled
  have restored := restored_restoreOne _ ranked
  rw [← restoreWork_of_due _ h] at restored
  have ctl : (beforeRestore tieChange r.state).ctl = r.state.ctl := by simp [beforeRestore]
  have ranks := RanksStand.of_ctl ctl
  have before := cut.trans counted
  refine ⟨⟨by rw [← before]; exact restored.cut, by rw [← before]; exact restored.ranked, restored.restore,
    restored.flag, fun g hp hrank hs => restored.outputs g ?_ ?_ ?_⟩, ?_⟩
  · rw [ranks.groupPresent]; exact hp
  · rw [ctl, before]; exact hrank
  · rw [stands, ne_eq, (groups g).1]; exact hs
  · exact ExpiryRun.mem_note_self _ _ _ _ h

/-- Settles O33: the shed unit working first, its step stands through the other blocks' work. -/
theorem restorationLowersCutRank : Obligations.RestorationLowersCutRank := by
  unfold Obligations.RestorationLowersCutRank
  rintro rest s u ha rfl due
  have worked := expiryRun_shed_first rest s
  obtain ⟨restored, noted⟩ := restored_shedWork (s.tieChangesTo (atTestPoint s)) _ due
  obtain ⟨restore, tested⟩ := testPoint_shed { state := atTestPoint s, events := [] }
  obtain ⟨straps, tun, cfg⟩ := testPoint_structural s
  have ranks : RanksStand s (testPoint { state := atTestPoint s, events := [] }).state :=
    ⟨by rw [straps], by rw [cfg], by rw [cfg]⟩
  obtain ⟨cut, ranked, zero, flag, outputs⟩ := restored
  rw [tested, atTestPoint_shed] at cut ranked outputs
  refine ⟨_, congrArg Host.Outcome.next (namedExpiry_of_event _ s .restoration ha (worked.events _ noted)), ?_, ranked, ?_,
    worked.flags _ flag, fun g hp hrank _ hs => ?_⟩
  · rw [worked.shed]; exact cut
  · rw [worked.shed]; exact zero
  · rw [worked.shed]
    exact outputs g (by rw [ranks.groupPresent]; exact hp) (by rw [ranks.rank]; exact hrank) hs

end Machine
end Sys2Proof

/-! Proofs. The bytes of the port's replies and the four read commands (R155, R163, R164, R178): a field stands where the layout
puts it, and a reply begins in a select period of its own. -/

namespace Sys2Proof
namespace Machine

open Safety

/-! ### Numbers as bytes carry them -/

@[simp] theorem length_natBytes (w n : Nat) : (natBytes w n).length = w := by
  induction w generalizing n with
  | zero => rfl
  | succ w ih => simp [natBytes, ih]

@[simp] theorem length_intBytes (w : Nat) (x : Int) : (intBytes w x).length = w := length_natBytes _ _

/-- The number that a field's bytes spell is what the field can hold of the number written. -/
theorem bytesNat_natBytes (w n : Nat) : bytesNat (natBytes w n) = n % 256 ^ w := by
  induction w generalizing n with
  | zero => simp [natBytes, bytesNat, Nat.mod_one]
  | succ w ih =>
    have spelled : bytesNat (natBytes (w + 1) n) = bytesNat (natBytes w (n / 256)) * 256 + n % 256 := by
      simp [natBytes, bytesNat, List.foldl_append]
    rw [spelled, ih, Nat.pow_succ', Nat.mod_mul]
    omega

/-- A signed number's bytes spell its code. -/
theorem bytesNat_intBytes (w : Nat) (x : Int) : bytesNat (intBytes w x) = signedCode (8 * w) x := by
  have width : 256 ^ w = 2 ^ (8 * w) := by rw [Nat.pow_mul]
  rw [intBytes, bytesNat_natBytes, width, signedCode_mod]

theorem toNat_byteOf (n : Nat) (h : n ≤ 255) : (byteOf n).toNat = n := by
  rw [byteOf, BitVec.toNat_ofNat]
  omega

/-! ### Fields of bytes -/

theorem fieldAt_cons (b : Byte) (rest : List Byte) (pos len : Nat) :
    fieldAt (b :: rest) (pos + 1) len = fieldAt rest pos len := rfl

theorem fieldAt_byte (b : Byte) (rest : List Byte) : fieldAt (b :: rest) 0 1 = b.toNat := by
  simp [fieldAt, bytesNat]

/-- A field at the front. -/
theorem fieldAt_front (front rest : List Byte) : fieldAt (front ++ rest) 0 front.length = bytesNat front := by
  simp [fieldAt]

/-- A field after other bytes. -/
theorem fieldAt_append (front rest : List Byte) (pos len : Nat) (h : front.length ≤ pos) :
    fieldAt (front ++ rest) pos len = fieldAt rest (pos - front.length) len := by
  simp [fieldAt, List.drop_append, List.drop_eq_nil_of_le h]

/-- A sixteen-bit signed field at the front reads back. -/
theorem signedAt_intBytes (x : Int) (rest : List Byte) (h : signed16 x) : signedAt (intBytes 2 x ++ rest) 0 2 = x := by
  have front := fieldAt_front (intBytes 2 x) rest
  rw [length_intBytes, bytesNat_intBytes] at front
  rw [signedAt, front]
  exact signedNat_signedCode x h

theorem signedAt_cons (b : Byte) (rest : List Byte) (pos len : Nat) :
    signedAt (b :: rest) (pos + 1) len = signedAt rest pos len := rfl

theorem signedAt_append (front rest : List Byte) (pos len : Nat) (h : front.length ≤ pos) :
    signedAt (front ++ rest) pos len = signedAt rest (pos - front.length) len := by
  rw [signedAt, signedAt, fieldAt_append _ _ _ _ h]

/-- The bytes within a record at a place of a list of records of one width. -/
theorem take_drop_flatMap {α : Type} (f : α → List Byte) (w pos len : Nat) (hw : ∀ a, (f a).length = w)
    (h : pos + len ≤ w) (l : List α) : ∀ (i : Nat) (a : α), l[i]? = some a → ∀ tail : List Byte,
      ((l.flatMap f ++ tail).drop (w * i + pos)).take len = ((f a).drop pos).take len := by
  induction l with
  | nil => intro i a hi; simp at hi
  | cons x rest ih =>
    intro i a hi tail
    have wide := hw x
    rw [List.flatMap_cons, List.append_assoc]
    cases i with
    | zero =>
      obtain rfl : x = a := by simpa using hi
      rw [Nat.mul_zero, Nat.zero_add, List.drop_append_of_le_length (by omega),
        List.take_append_of_le_length (by rw [List.length_drop]; omega)]
    | succ i =>
      have past : w * (i + 1) + pos = (f x).length + (w * i + pos) := by rw [wide]; ring
      rw [past, List.drop_length_add_append]
      exact ih i a (by simpa using hi) tail

/-! ### Bits packed into bytes -/

/-- A field's bits are those of its upper and of its lower part. -/
theorem natBits_add (a b n : Nat) : natBits (a + b) n = natBits a (n / 2 ^ b) ++ natBits b n := by
  induction b generalizing n with
  | zero => simp [natBits]
  | succ b ih => rw [← Nat.add_assoc, natBits, natBits, ih, Nat.div_div_eq_div_mul, Nat.pow_succ', List.append_assoc]

/-- A field's bits are those of what it can hold. -/
theorem natBits_mod (w n : Nat) : natBits w (n % 2 ^ w) = natBits w n := by
  induction w generalizing n with
  | zero => rfl
  | succ w ih =>
    have upper : n % 2 ^ (w + 1) / 2 = n / 2 % 2 ^ w := by
      rw [Nat.pow_succ', Nat.mod_mul_right_div_self]
    have lower : n % 2 ^ (w + 1) % 2 = n % 2 := Nat.mod_mod_of_dvd n (Dvd.intro_left _ rfl)
    rw [natBits, natBits, upper, lower, ih]

/-- The bits of a number's bytes are the number's bits. -/
theorem bytesBits_natBytes (w n : Nat) : bytesBits (natBytes w n) = natBits (8 * w) n := by
  induction w generalizing n with
  | zero => rfl
  | succ w ih =>
    have last : (BitVec.ofNat 8 n).toNat = n % 2 ^ 8 := BitVec.toNat_ofNat n 8
    have spelled : bytesBits (natBytes (w + 1) n) = bytesBits (natBytes w (n / 256)) ++ natBits 8 (n % 2 ^ 8) := by
      simp [natBytes, bytesBits, last]
    rw [spelled, ih, natBits_mod, Nat.mul_succ, natBits_add]
    rfl

/-- Bits read back from the number that they spell. -/
theorem natBits_bitsNat (bits : List Bool) : natBits bits.length (bitsNat bits) = bits := by
  induction bits using List.reverseRecOn with
  | nil => rfl
  | append_singleton bits b ih =>
    have spelled : bitsNat (bits ++ [b]) = 2 * bitsNat bits + bit b := by simp [bitsNat]
    have upper : (2 * bitsNat bits + bit b) / 2 = bitsNat bits := by cases b <;> simp [bit]; omega
    have lower : ((2 * bitsNat bits + bit b) % 2 == 1) = b := by cases b <;> simp [bit]
    rw [spelled, List.length_append, List.length_singleton, natBits, upper, lower, ih]

/-- Packed bits stand in frame bit order, zeros after them (R178). -/
theorem bytesBits_packBits (w : Nat) (bits : List Bool) (h : bits.length ≤ 8 * w) :
    bytesBits (packBits w bits) = bits ++ List.replicate (8 * w - bits.length) false := by
  have filled : (bits ++ List.replicate (8 * w - bits.length) false).length = 8 * w := by simp; omega
  have spelled := natBits_bitsNat (bits ++ List.replicate (8 * w - bits.length) false)
  rw [filled] at spelled
  rw [packBits, bytesBits_natBytes, spelled]

/-! ### An accepted read command (R161, R162, R164) -/

/-- Past INIT, with no RESTART waiting, a command of no field that is never refused and changes nothing replies its content. -/
theorem serve_read (code : Byte) (c : Service) (s : State) (hr : noRestart s) (hi : s.ctl.station ≠ .init)
    (hc : Service.ofCode code = some c) (hlength : c.fieldLength = 0) (hrefusal : ∀ t, c.refusal [] t = none)
    (hkind : ∀ t, c.replyKind t = .plain) (heffect : ∀ t, c.effect [] t = t) :
    ∃ t, serve code [] s = t ∧
      Safety.Answers .accepted (c.content (s.setPort { s.port with phase := .waiting })) .plain t ∧ sameFlags s t ∧
      Kept [.port] s t := by
  have judged : judge code [] (s.setPort { s.port with phase := .waiting }) = .accepted := by
    rw [judge, if_neg (by simpa using hi), hc]
    simp [hlength, hrefusal]
  refine ⟨_, rfl, ?_⟩
  rw [serve, endSelect_eq s hr, answerCommand_accepted code [] _ c judged hc, accept, hkind, heffect]
  exact ⟨⟨rfl, rfl⟩, ⟨rfl, rfl, rfl, rfl, rfl⟩, by simp [Kept]⟩

/-! ### READ-IDENT -/

/-- The strap byte: the address, the role in bit 4, the section in bit 5 (R178, log entry 35). -/
theorem identReply_eq (s : State) :
    ∃ b : Byte, s.identReply = [0x46, 0x42, 0x02, 0x20, 0x01, b] ∧
      b.toNat = s.ctl.straps.address.val + (if s.ctl.straps.role = .genset then 0 else 16) +
        (if s.ctl.straps.sect = .a then 0 else 32) := by
  have address := s.ctl.straps.address.isLt
  refine ⟨_, rfl, ?_⟩
  cases s.ctl.straps.role <;> cases s.ctl.straps.sect <;> rw [toNat_byteOf] <;>
    simp [Role.portCode, sectCode] <;> omega

/-! ### READ-PEERS -/

theorem length_valueBytes (x : Option Int) : (valueBytes x).length = 2 := by cases x <;> simp [valueBytes]

theorem length_area (b : PeerBody) : b.area.length = 24 := by cases b <;> simp [PeerBody.area, packBits]

theorem length_entryReply (e : PeerEntry) : e.reply.length = 33 := by
  simp [PeerEntry.reply, length_valueBytes, length_area]

/-- Three flags stand in bits 0 to 2 of their byte (R178). -/
theorem testBit_flagsByte (a b c : Bool) :
    (flagsByte [a, b, c]).toNat.testBit 0 = a ∧ (flagsByte [a, b, c]).toNat.testBit 1 = b ∧
    (flagsByte [a, b, c]).toNat.testBit 2 = c := by
  cases a <;> cases b <;> cases c <;> decide

/-- The bits of the body that an entry keeps. -/
def PeerBody.bits : PeerBody → List Bool
  | .none => []
  | .gen b => b.bits
  | .feed b => b.bits

theorem bytesBits_area (b : PeerBody) :
    bytesBits b.area = b.bits ++ List.replicate (192 - b.bits.length) false := by
  cases b with
  | none => exact bytesBits_packBits 24 [] (by simp)
  | gen b => exact bytesBits_packBits 24 b.bits ((length_bodyBits (.gen b)).trans_le (show bodyLength 2 ≤ 192 by decide))
  | feed b => exact bytesBits_packBits 24 b.bits ((length_bodyBits (.feed b)).trans_le (show bodyLength 3 ≤ 192 by decide))

section PeersReply

variable (s : State)

theorem length_peersReply : s.peersReply.length = 2 + 33 * s.view.peers.length := by
  have entries : (s.view.peers.flatMap PeerEntry.reply).length = 33 * s.view.peers.length := by
    rw [List.length_flatMap]
    simp [length_entryReply, Nat.mul_comm]
  simp only [State.peersReply, List.length_append, List.length_singleton, entries]
  omega

/-- The own-reported byte stands last. -/
theorem peersReply_ownReported :
    fieldAt s.peersReply (1 + 33 * s.view.peers.length) 1 = bit s.view.ownReported := by
  have entries : ([byteOf s.view.peers.length] ++ s.view.peers.flatMap PeerEntry.reply).length =
      1 + 33 * s.view.peers.length := by
    have whole := length_peersReply s
    rw [State.peersReply, List.length_append, List.length_singleton] at whole
    omega
  rw [State.peersReply, fieldAt_append _ _ _ _ entries.le, entries, Nat.sub_self, fieldAt_byte, toNat_byteOf]
  cases s.view.ownReported <;> decide

variable (i : Nat) (e : PeerEntry) (he : s.view.peers[i]? = some e)
include he

/-- The entries stand after the count, in table order. -/
theorem peersReply_entry (pos len : Nat) (h : pos + len ≤ 33) :
    (s.peersReply.drop (1 + pos + 33 * i)).take len = (e.reply.drop pos).take len := by
  rw [State.peersReply, List.append_assoc, show 1 + pos + 33 * i = [byteOf s.view.peers.length].length + (33 * i + pos) by
    simp only [List.length_singleton]; ring, List.drop_length_add_append]
  exact take_drop_flatMap PeerEntry.reply 33 pos len length_entryReply h s.view.peers i e he _

theorem peersReply_field (pos len : Nat) (h : pos + len ≤ 33) :
    fieldAt s.peersReply (1 + pos + 33 * i) len = fieldAt e.reply pos len :=
  congrArg bytesNat (peersReply_entry s i e he pos len h)

end PeersReply

/-- The fields of an entry in its 33 bytes (R178). -/
theorem entryReply_fields (e : PeerEntry) :
    fieldAt e.reply 0 1 = e.address.val ∧ fieldAt e.reply 1 1 = e.role.portCode ∧ fieldAt e.reply 2 1 = sectCode e.sect ∧
    (e.period ≤ 255 → fieldAt e.reply 3 1 = e.period) ∧ fieldAt e.reply 4 1 = e.state.portCode ∧
    (e.age ≤ 255 → fieldAt e.reply 5 1 = e.age) ∧
    fieldAt e.reply 6 1 = (flagsByte [e.tripped, e.heard, e.transfer.isSome]).toNat ∧
    fieldAt e.reply 7 2 = bytesNat (valueBytes e.transfer) ∧ (e.reply.drop 9).take 24 = e.body.area := by
  have address := e.address.isLt
  refine ⟨(fieldAt_byte _ _).trans (toNat_byteOf _ (by omega)), (fieldAt_byte _ _).trans ?_, (fieldAt_byte _ _).trans ?_,
    fun h => (fieldAt_byte _ _).trans (toNat_byteOf _ h), (fieldAt_byte _ _).trans ?_,
    fun h => (fieldAt_byte _ _).trans (toNat_byteOf _ h), fieldAt_byte _ _, ?_, ?_⟩
  · cases e.role <;> rfl
  · cases e.sect <;> rfl
  · cases e.state <;> rfl
  · exact congrArg bytesNat (List.take_left' (length_valueBytes e.transfer))
  · have past : e.reply.drop 9 = (valueBytes e.transfer ++ e.body.area).drop 2 := rfl
    rw [past, List.drop_left' (length_valueBytes e.transfer), List.take_of_length_le (length_area e.body).le]

/-- A pending transfer's two bytes, or 8000h (R178). -/
theorem valueBytes_spec (x : Option Int) :
    (x = none → bytesNat (valueBytes x) = 0x8000) ∧
    (∀ p, x = some p → signed16 p → signedNat 16 (bytesNat (valueBytes x)) = p) := by
  refine ⟨fun h => by rw [h]; exact bytesNat_natBytes 2 0x8000, fun p h hp => ?_⟩
  rw [h, valueBytes, bytesNat_intBytes]
  exact signedNat_signedCode p hp

/-! ### READ-GROUPS -/

theorem length_confirmBytes (x : Option Nat) : (confirmBytes x).length = 2 := by cases x <;> simp [confirmBytes]

/-- The confirm timer's two bytes: whole milliseconds, or FFFFh (R178, log entry 17). -/
theorem confirmBytes_spec (x : Option Nat) :
    (x = none → bytesNat (confirmBytes x) = 0xFFFF) ∧
    (∀ us, x = some us → us / 1000 ≤ 65535 → bytesNat (confirmBytes x) = us / 1000) := by
  refine ⟨fun h => by rw [h]; exact bytesNat_natBytes 2 0xFFFF, fun us h hus => ?_⟩
  rw [h, confirmBytes, bytesNat_natBytes]
  omega

section GroupsReply

variable (s : State) (g : GroupNo)

theorem length_groupReply : (s.groupReply g).length = 10 := by
  unfold State.groupReply
  split <;> simp [length_confirmBytes]

theorem length_groupsReply : s.groupsReply.length = 80 := by
  simp [State.groupsReply, groupNumbers, length_groupReply]

/-- The group records stand in group order. -/
theorem groupsReply_field (pos len : Nat) (h : pos + len ≤ 10) :
    fieldAt s.groupsReply (pos + 10 * g.val) len = fieldAt (s.groupReply g) pos len := by
  have numbered : groupNumbers[g.val]? = some g := by revert g; decide
  have slice := take_drop_flatMap s.groupReply 10 pos len (length_groupReply s) h groupNumbers g.val g numbered []
  rw [List.append_nil, Nat.add_comm] at slice
  exact congrArg bytesNat slice

/-- On a genset station every group is ABSENT, with no load and no timer. -/
theorem groupReply_genset (h : s.isGenset = true) :
    fieldAt (s.groupReply g) 0 3 = 6 ∧ fieldAt (s.groupReply g) 3 5 = 0 ∧ fieldAt (s.groupReply g) 8 2 = 0xFFFF := by
  have bytes : s.groupReply g = [0, 0, 6, 0, 0, 0, 0, 0, 0xFF, 0xFF] := by
    rw [State.groupReply, isFeeder_of_genset s ((isGenset_iff s).1 h)]
    rfl
  rw [bytes]
  decide

/-- The fields of a group of a feeder station in its ten bytes (R178). -/
theorem groupReply_feeder (h : s.isFeeder = true) :
    fieldAt (s.groupReply g) 0 1 = bit s.ctl.cfg.present[g] ∧
    (s.ctl.cfg.rank[g] ≤ 255 → fieldAt (s.groupReply g) 1 1 = s.ctl.cfg.rank[g]) ∧
    fieldAt (s.groupReply g) 2 1 = s.shed.groups[g].state.code ∧
    (signed16 (s.groupLoad g) → signedAt (s.groupReply g) 3 2 = s.groupLoad g) ∧
    (signed16 s.shed.groups[g].remembered → signedAt (s.groupReply g) 5 2 = s.shed.groups[g].remembered) ∧
    fieldAt (s.groupReply g) 7 1 = bit s.shed.groups[g].output ∧
    fieldAt (s.groupReply g) 8 2 = bytesNat (confirmBytes s.shed.groups[g].confirm) := by
  have bytes : s.groupReply g =
      byteOf (bit s.ctl.cfg.present[g]) :: byteOf s.ctl.cfg.rank[g] :: byteOf s.shed.groups[g].state.code ::
        (intBytes 2 (s.groupLoad g) ++ (intBytes 2 s.shed.groups[g].remembered ++
          (byteOf (bit s.shed.groups[g].output) :: confirmBytes s.shed.groups[g].confirm))) := by
    simp [State.groupReply, h]
  rw [bytes]
  refine ⟨(fieldAt_byte _ _).trans ?_, fun hrank => (fieldAt_byte _ _).trans (toNat_byteOf _ hrank),
    (fieldAt_byte _ _).trans ?_, fun hload => signedAt_intBytes _ _ hload, fun hload => ?_, ?_, ?_⟩
  · cases s.ctl.cfg.present[g] <;> rfl
  · cases s.shed.groups[g].state <;> rfl
  · simp only [signedAt_cons, signedAt_append _ _ 2 2 (length_intBytes 2 _).le, length_intBytes]
    exact signedAt_intBytes _ _ hload
  · simp only [fieldAt_cons, fieldAt_append _ _ 4 1 ((length_intBytes 2 _).trans_le (by decide)),
      fieldAt_append _ _ 2 1 (length_intBytes 2 _).le, length_intBytes]
    cases s.shed.groups[g].output <;> rfl
  · simp only [fieldAt_cons, fieldAt_append _ _ 5 2 ((length_intBytes 2 _).trans_le (by decide)),
      fieldAt_append _ _ 3 2 ((length_intBytes 2 _).trans_le (by decide)), length_intBytes]
    exact congrArg bytesNat (List.take_of_length_le (length_confirmBytes _).le)

end GroupsReply

/-! ### The four read commands -/

/-- Settles O49, reply by reply, each field by its place. -/
theorem readCommandsReply : Obligations.ReadCommandsReply := by
  unfold Obligations.ReadCommandsReply
  intro s hr hi
  refine ⟨?_, ?_, ?_, ?_⟩
  · obtain ⟨t, answered, answers, flags, kept⟩ := serve_read 0x01 .readIdent s hr hi rfl rfl (fun _ => rfl) (fun _ => rfl)
      fun _ => rfl
    obtain ⟨b, content, strap⟩ := identReply_eq s
    exact ⟨t, b, congrArg Host.Outcome.next answered, content ▸ answers, strap, flags, kept⟩
  · obtain ⟨t, answered, answers, flags, kept⟩ := serve_read 0x03 .readPeers s hr hi rfl rfl (fun _ => rfl) (fun _ => rfl)
      fun _ => rfl
    refine ⟨t, s.peersReply, congrArg Host.Outcome.next answered, answers, length_peersReply s,
      fun count => (fieldAt_byte _ _).trans (toNat_byteOf _ count), ?_, fun i e he => ?_, flags, kept⟩
    · rw [peersReply_ownReported]
      cases s.view.ownReported <;> rfl
    · have field := peersReply_field s i e he
      obtain ⟨address, role, sect, period, state, age, marks, transfer, area⟩ := entryReply_fields e
      obtain ⟨tripped, heard, pending⟩ := testBit_flagsByte e.tripped e.heard e.transfer.isSome
      obtain ⟨noValue, value⟩ := valueBytes_spec e.transfer
      have marks := (field 6 1 (by decide)).trans marks
      have transfer := (field 7 2 (by decide)).trans transfer
      refine ⟨(field 0 1 (by decide)).trans address, (field 1 1 (by decide)).trans (role.trans ?_),
        (field 2 1 (by decide)).trans (sect.trans ?_), fun h => (field 3 1 (by decide)).trans (period h),
        (field 4 1 (by decide)).trans (state.trans ?_), fun h => (field 5 1 (by decide)).trans (age h),
        marks ▸ tripped, marks ▸ heard, marks ▸ pending, fun h => transfer.trans (noValue h),
        fun p h hp => (congrArg (signedNat 16) transfer).trans (value p h hp), fun bits hbits => ?_⟩
      · cases e.role <;> rfl
      · cases e.sect <;> rfl
      · cases e.state <;> rfl
      · have stored : bits = e.body.bits := hbits
        have slice := peersReply_entry s i e he 9 24 (by decide)
        rw [stored, ← bytesBits_area, ← area]
        exact congrArg bytesBits slice
  · obtain ⟨t, answered, answers, flags, kept⟩ := serve_read 0x04 .readGroups s hr hi rfl rfl (fun _ => rfl) (fun _ => rfl)
      fun _ => rfl
    refine ⟨t, s.groupsReply, congrArg Host.Outcome.next answered, answers, length_groupsReply s, fun g => ?_, flags, kept⟩
    have field := groupsReply_field s g
    have front (len : Nat) (h : 0 + len ≤ 10) : fieldAt s.groupsReply (10 * g.val) len = fieldAt (s.groupReply g) 0 len := by
      rw [← field 0 len h, Nat.zero_add]
    refine ⟨fun hg => ?_, fun hf => ?_⟩
    · obtain ⟨absent, blank, stopped⟩ := groupReply_genset s g hg
      exact ⟨(front 3 (by decide)).trans absent, (field 3 5 (by decide)).trans blank, (field 8 2 (by decide)).trans stopped⟩
    · obtain ⟨present, rank, state, load, remembered, output, confirm⟩ := groupReply_feeder s g hf
      obtain ⟨stopped, running⟩ := confirmBytes_spec s.shed.groups[g].confirm
      have confirm := (field 8 2 (by decide)).trans confirm
      refine ⟨(front 1 (by decide)).trans present, fun h => (field 1 1 (by decide)).trans (rank h),
        (field 2 1 (by decide)).trans (state.trans ?_), fun l hl h => ?_,
        fun h => (congrArg (signedNat 16) (field 5 2 (by decide))).trans (remembered h),
        (field 7 1 (by decide)).trans output, fun h => confirm.trans (stopped h),
        fun us h hus => confirm.trans (running us h hus)⟩
      · cases s.shed.groups[g].state <;> rfl
      · have reported : l = s.groupLoad g := hl
        rw [reported] at h ⊢
        exact (congrArg (signedNat 16) (field 3 2 (by decide))).trans (load h)
  · obtain ⟨t, answered, answers, flags, kept⟩ := serve_read 0x09 .readConfig s hr hi rfl rfl (fun _ => rfl) (fun _ => rfl)
      fun _ => rfl
    exact ⟨t, congrArg Host.Outcome.next answered, answers, flags, kept⟩

end Machine
end Sys2Proof

/-! Proofs. Capture's own operations (chapter 7): the slot found active and the slot found FREE, what an offered trigger does to the
slots and to the counter, what a row does, and that each keeps the slots in order and never lowers the counter. -/

namespace Sys2Proof
namespace Machine

open Safety

/-! ### The slots in their order (R122, R124) -/

theorem mem_slotNumbers (i : SlotNo) : i ∈ slotNumbers := by revert i; decide

/-- A search through the slots finds the lowest-numbered one. -/
theorem find_slotNumbers_lowest (p : SlotNo → Bool) (j k : SlotNo) (h : slotNumbers.find? p = some k) (hj : j < k) :
    p j = false := by
  obtain ⟨-, before, after, split, passed⟩ := List.find?_eq_some_iff_append.1 h
  have sorted : slotNumbers.Pairwise (· < ·) := by decide
  have mem := mem_slotNumbers j
  rw [split] at sorted mem
  obtain ⟨-, later, -⟩ := List.pairwise_append.1 sorted
  rcases List.mem_append.1 mem with hb | hb
  · simpa using passed j hb
  · rcases List.mem_cons.1 hb with rfl | ha
    · exact absurd hj (lt_irrefl _)
    · exact absurd ((List.pairwise_cons.1 later).1 j ha) (lt_asymm hj)

theorem isFree_iff (x : Slot) : x.isFree = true ↔ x = .free := by cases x <;> simp [Slot.isFree]

/-- The slot found FREE is the lowest-numbered FREE slot. -/
theorem freeSlot_eq_some_iff (c : Capture) (j : SlotNo) :
    c.freeSlot = some j ↔ c.slots[j] = .free ∧ ∀ k : SlotNo, k < j → c.slots[k] ≠ .free := by
  have lowest (i : SlotNo) (h : c.freeSlot = some i) (k : SlotNo) (hk : k < i) : c.slots[k] ≠ .free := fun free => by
    have passed := find_slotNumbers_lowest _ k i h hk
    rw [(isFree_iff _).2 free] at passed
    exact absurd passed (by decide)
  refine ⟨fun h => ⟨freeSlot_free c j h, lowest j h⟩, fun ⟨free, first⟩ => ?_⟩
  cases found : c.freeSlot with
  | none => exact absurd ((isFree_iff _).2 free) (List.find?_eq_none.1 found j (mem_slotNumbers j))
  | some i =>
    rcases lt_trichotomy i j with h | h | h
    · exact absurd (freeSlot_free c i found) (first i h)
    · rw [h]
    · exact absurd free (lowest i found j h)

theorem freeSlot_eq_none (c : Capture) (h : ∀ i : SlotNo, c.slots[i] ≠ .free) : c.freeSlot = none :=
  List.find?_eq_none.2 fun i _ free => h i ((isFree_iff _).1 free)

theorem activeSlot_eq_none (c : Capture) (h : ∀ i : SlotNo, c.slots[i].active = false) : c.activeSlot = none :=
  List.find?_eq_none.2 fun i _ => by simpa using h i

/-- One slot replaced, and the others as they were. -/
theorem setSlot_slots (c : Capture) (i j : SlotNo) (x : Slot) :
    (c.setSlot i x).slots[j] = if j = i then x else c.slots[j] := by
  by_cases h : j = i
  · rw [if_pos h, h]; simp [Capture.setSlot]
  · have apart : ¬ i.val = j.val := fun he => h (Fin.ext he.symm)
    rw [if_neg h]; simp [Capture.setSlot, apart]

theorem close_slots (c : Capture) (i j : SlotNo) (rec : Record) :
    (c.close i rec).slots[j] = if j = i then .ready rec else c.slots[j] :=
  setSlot_slots c i j (.ready rec)

/-! ### The slots in order (R122, R130, R136) -/

/-- At most one slot is ARMED or POST, and the ready list names each READY slot once and no other. -/
structure SlotsOk (c : Capture) : Prop where
  one : ∀ i j : SlotNo, c.slots[i].active = true → c.slots[j].active = true → i = j
  nodup : c.readyList.Nodup
  named : ∀ i : SlotNo, i ∈ c.readyList ↔ isReady c.slots[i] = true

theorem captureOk_iff (s : State) : captureOk s ↔ SlotsOk s.cap :=
  ⟨fun ⟨one, nodup, named⟩ => ⟨one, nodup, named⟩, fun ⟨one, nodup, named⟩ => ⟨one, nodup, named⟩⟩

theorem slotsOk_reset : SlotsOk Capture.reset :=
  ⟨by decide, List.nodup_nil, by decide⟩

/-- The law of the slots reads the slots and the ready list. -/
theorem SlotsOk.congr {c d : Capture} (h : SlotsOk c) (hslots : d.slots = c.slots) (hlist : d.readyList = c.readyList) :
    SlotsOk d :=
  ⟨by rw [hslots]; exact h.one, by rw [hlist]; exact h.nodup, by rw [hslots, hlist]; exact h.named⟩

theorem isReady_of_active {x : Slot} (h : x.active = true) : isReady x = false := by
  cases x <;> simp_all [Slot.active, isReady]

theorem active_of_isReady {x : Slot} (h : isReady x = true) : x.active = false := by
  cases x <;> simp_all [Slot.active, isReady]

/-- Beside an active slot every slot is inactive. -/
theorem SlotsOk.others {c : Capture} (h : SlotsOk c) {i : SlotNo} (hi : c.slots[i].active = true) (j : SlotNo)
    (hj : j ≠ i) : c.slots[j].active = false := by
  by_contra active
  exact hj (h.one j i (by simpa using active) hi)

/-- A slot that is not READY takes another content that is not, an active one only beside inactive slots. -/
theorem SlotsOk.setSlot {c : Capture} (h : SlotsOk c) {i : SlotNo} {x : Slot} (old : isReady c.slots[i] = false)
    (new : isReady x = false) (alone : x.active = true → ∀ j : SlotNo, j ≠ i → c.slots[j].active = false) :
    SlotsOk (c.setSlot i x) where
  one a b ha hb := by
    rw [setSlot_slots] at ha hb
    split at ha <;> split at hb
    · next hai hbi => rw [hai, hbi]
    · next hbi => rw [alone ha b hbi] at hb; exact absurd hb (by decide)
    · next hai _ => rw [alone hb a hai] at ha; exact absurd ha (by decide)
    · exact h.one a b ha hb
  nodup := h.nodup
  named j := by
    rw [setSlot_slots]
    refine (h.named j).trans ?_
    split
    · next hj => rw [hj, old, new]
    · rfl

/-- The active slot closes READY, with its mark at the tail of the ready list. -/
theorem SlotsOk.close {c : Capture} (h : SlotsOk c) {i : SlotNo} (hi : c.slots[i].active = true) (rec : Record) :
    SlotsOk (c.close i rec) ∧ ∀ j : SlotNo, (c.close i rec).slots[j].active = false := by
  have inactive (j : SlotNo) : (c.close i rec).slots[j].active = false := by
    rw [close_slots]
    split
    · rfl
    · next hj => exact h.others hi j hj
  have unnamed : i ∉ c.readyList := by rw [h.named, isReady_of_active hi]; decide
  refine ⟨⟨fun a b ha => ?_, ?_, fun j => ?_⟩, inactive⟩
  · rw [inactive a] at ha; exact absurd ha (by decide)
  · exact List.nodup_append.2 ⟨h.nodup, by simp, fun a ha b hb hab =>
      unnamed (by rw [List.mem_singleton] at hb; rw [← hb, ← hab]; exact ha)⟩
  · rw [close_slots]
    refine List.mem_append.trans ?_
    rw [List.mem_singleton, h.named]
    split
    · next hj => simp [hj, isReady]
    · next hj => simp [hj]

/-- The slot at the head of the ready list goes FREE and the list moves up. -/
theorem SlotsOk.unlist {c : Capture} (h : SlotsOk c) {i : SlotNo} {rest : List SlotNo} (hlist : c.readyList = i :: rest) :
    SlotsOk { c.setSlot i .free with readyList := rest } := by
  have nodup := h.nodup
  have named := h.named
  rw [hlist] at nodup named
  obtain ⟨hhead, hrest⟩ := List.nodup_cons.1 nodup
  have slot (j : SlotNo) : ({ c.setSlot i .free with readyList := rest } : Capture).slots[j] =
      if j = i then .free else c.slots[j] := setSlot_slots c i j .free
  refine ⟨fun a b ha hb => ?_, hrest, fun j => ?_⟩
  · rw [slot] at ha hb
    split at ha
    · exact absurd ha (by decide)
    · split at hb
      · exact absurd hb (by decide)
      · exact h.one a b ha hb
  · rw [slot]
    split
    · next hj => rw [hj]; simp [hhead, isReady]
    · next hj => rw [← named j, List.mem_cons, or_iff_right hj]

/-! ### Triggers (R127 to R132) -/

/-- All that an accepted trigger can do to the slots: nothing where none was accepted, the ARMED slot POST, or the POST slot READY
and the FREE slot found POST. -/
theorem acceptTrigger_cases (cause : TriggerCause) (o : TriggerOutcome) (n : Nat) (s : State) :
    acceptTrigger cause o n s = s.cap ∨
    (∃ i ring, s.cap.activeSlot = some i ∧ s.cap.slots[i] = .armed ring ∧
      acceptTrigger cause o n s = s.cap.setSlot i (.post (openRecord cause ring n s))) ∨
    (∃ i rec j, s.cap.activeSlot = some i ∧ s.cap.slots[i] = .post rec ∧ s.cap.freeSlot = some j ∧
      acceptTrigger cause o n s =
        (s.cap.close i rec.overlapped).setSlot j (.post (openRecord cause [] n s))) := by
  unfold acceptTrigger
  split
  · next i hi =>
    split
    · next ring hring => exact .inr (.inl ⟨i, ring, hi, hring, rfl⟩)
    · exact .inl rfl
  · next i hi =>
    split
    · next rec j hrec hfree => exact .inr (.inr ⟨i, rec, j, hi, hrec, hfree, rfl⟩)
    · exact .inl rfl
  · exact .inl rfl

theorem slotsOk_acceptTrigger (cause : TriggerCause) (o : TriggerOutcome) (n : Nat) (s : State) (h : SlotsOk s.cap) :
    SlotsOk (acceptTrigger cause o n s) := by
  rcases acceptTrigger_cases cause o n s with e | ⟨i, ring, hi, hring, e⟩ | ⟨i, rec, j, hi, hrec, hfree, e⟩ <;> rw [e]
  · exact h
  · exact h.setSlot (by rw [hring]; rfl) rfl fun _ => h.others (activeSlot_active _ i hi)
  · obtain ⟨closed, inactive⟩ := h.close (activeSlot_active _ i hi) rec.overlapped
    have free : s.cap.slots[j] = .free := freeSlot_free _ j hfree
    have apart : j ≠ i := fun he => by rw [he, hrec] at free; exact absurd free (by simp)
    refine closed.setSlot ?_ rfl fun _ k _ => inactive k
    rw [close_slots, if_neg apart, free]
    rfl

theorem countUp_le (n : Nat) (h : n ≤ Config.captureCounterMax) : countUp n ≤ Config.captureCounterMax := by
  unfold countUp; split <;> omega

/-- The counter stops at its greatest value (R132). -/
theorem countTrigger_le (mode : CountMode) (o : TriggerOutcome) (n : Nat) (h : n ≤ Config.captureCounterMax) :
    countTrigger mode o n ≤ Config.captureCounterMax := by
  cases o with
  | notTaken => exact h
  | started => exact countUp_le n h
  | overlap => exact countUp_le n h
  | refused r =>
    cases mode with
    | accepted => exact h
    | all => exact countUp_le n h

theorem offerTrigger_cap (cause : TriggerCause) (s : State) :
    (offerTrigger cause s).cap =
      { acceptTrigger cause (judgeTrigger cause s)
          (countTrigger s.ctl.cfg.countMode (judgeTrigger cause s) s.cap.counter) s with
        counter := countTrigger s.ctl.cfg.countMode (judgeTrigger cause s) s.cap.counter } := by
  simp [offerTrigger]

/-- A trigger that is not in trigger_mask changes nothing (R127). -/
theorem offerTrigger_notTaken (cause : TriggerCause) (s : State)
    (h : s.ctl.cfg.triggerMask.getLsbD cause.bitIndex = false) : offerTrigger cause s = s := by
  have judged : judgeTrigger cause s = .notTaken := if_pos h
  simp only [offerTrigger, judged]
  rfl

/-! ### What every operation of capture keeps -/

/-- Work that keeps the slots in order, and neither lowers the counter nor takes it past its end. -/
structure KeepsCapture (s t : State) : Prop where
  slots : SlotsOk s.cap → SlotsOk t.cap
  rises : s.cap.counter ≤ t.cap.counter
  bounded : s.cap.counter ≤ Config.captureCounterMax → t.cap.counter ≤ Config.captureCounterMax

/-- Work on the slots that leaves the counter. -/
theorem KeepsCapture.of_slots {s t : State} (slots : SlotsOk s.cap → SlotsOk t.cap)
    (hcounter : t.cap.counter = s.cap.counter) : KeepsCapture s t :=
  ⟨slots, hcounter.ge, fun h => hcounter.trans_le h⟩

/-- Work that leaves capture alone. -/
theorem KeepsCapture.of_eq {s t : State} (h : t.cap = s.cap) : KeepsCapture s t :=
  .of_slots (fun ok => by rw [h]; exact ok) (by rw [h])

theorem KeepsCapture.refl (s : State) : KeepsCapture s s := .of_eq rfl

theorem KeepsCapture.trans {s t u : State} (h : KeepsCapture s t) (k : KeepsCapture t u) : KeepsCapture s u :=
  ⟨k.slots ∘ h.slots, h.rises.trans k.rises, k.bounded ∘ h.bounded⟩

theorem KeepsCapture.ite {s t : State} {c : Prop} [Decidable c] (h : c → KeepsCapture s t) :
    KeepsCapture s (if c then t else s) := by
  split
  · next hc => exact h hc
  · exact .refl s

theorem keepsCapture_offerTrigger (cause : TriggerCause) (s : State) : KeepsCapture s (offerTrigger cause s) where
  slots h := by
    rw [offerTrigger_cap]
    exact (slotsOk_acceptTrigger cause _ _ s h).congr rfl rfl
  rises := offerTrigger_counter cause s
  bounded h := by
    rw [offerTrigger_cap]
    exact countTrigger_le _ _ _ h

/-- A slot arms only where no slot is active, and it was FREE (R124). -/
theorem keepsCapture_armSlot (s : State) : KeepsCapture s (armSlot s) := by
  rcases armSlot_cases s with e | ⟨i, hnone, hfree, e⟩ <;> rw [e]
  · exact .refl s
  · refine .of_slots (fun h => h.setSlot ?_ rfl fun _ j _ => activeSlot_none _ hnone j) rfl
    rw [freeSlot_free _ i hfree]
    rfl

/-- A row goes into the active slot, which stays active or closes READY (R125, R130). -/
theorem keepsCapture_writeRow (r : RawRow) (s : State) : KeepsCapture s (writeRow r s) := by
  unfold writeRow
  split
  · exact .refl s
  · next i hi =>
    have active := activeSlot_active _ i hi
    have stays (x : Slot) (hx : isReady x = false) : KeepsCapture s (s.setCap (s.cap.setSlot i x)) :=
      .of_slots (fun h => h.setSlot (isReady_of_active active) hx fun _ => h.others active) rfl
    split
    · exact .refl s
    · exact .refl s
    · exact stays _ rfl
    · next rec _ =>
      split
      · have closed : KeepsCapture s (raise .recordReady (s.setCap (s.cap.close i (rec.append r)))) :=
          .of_slots (fun h => (h.close active _).1) rfl
        exact closed.trans (keepsCapture_armSlot _)
      · exact stays _ rfl

/-- An ARMED slot that goes FREE (R137, R138). -/
theorem keepsCapture_release (s : State) (i : SlotNo) (ring : List RawRow) (h : s.cap.slots[i] = .armed ring) :
    KeepsCapture s (s.setCap (s.cap.setSlot i .free)) :=
  .of_slots (fun ok => ok.setSlot (by rw [h]; rfl) rfl fun active => absurd active (by decide)) rfl

theorem keepsCapture_standbyCapture (s : State) : KeepsCapture s (standbyCapture s) := by
  unfold standbyCapture
  split
  · exact .refl s
  · next i hi =>
    split
    · exact .refl s
    · exact .refl s
    · next ring hring => exact keepsCapture_release s i ring hring
    · exact .of_slots (fun h => (h.close (activeSlot_active _ i hi) _).1) rfl

theorem keepsCapture_disarmSlot (s : State) : KeepsCapture s (disarmSlot s) := by
  unfold disarmSlot
  split
  · exact .refl s
  · next i _ =>
    split
    · exact .refl s
    · exact .refl s
    · next ring hring => exact keepsCapture_release s i ring hring
    · exact .refl s

theorem keepsCapture_freeHead (s : State) : KeepsCapture s (freeHead s) := by
  unfold freeHead
  split
  · exact .refl s
  · next i rest hlist =>
    have freed : KeepsCapture s (s.setCap { s.cap.setSlot i .free with readyList := rest }) :=
      .of_slots (fun h => h.unlist hlist) rfl
    exact freed.trans (keepsCapture_armSlot _)

/-- A change of the time tag and its marks (R123). -/
theorem keepsCapture_tag (s : State) (tag micros wraps : Nat) (overflow : Bool) :
    KeepsCapture s (s.setCap { s.cap with tag := tag, tagMicros := micros, tagWraps := wraps, overflow := overflow }) :=
  .of_slots (fun h => h.congr rfl rfl) rfl

end Machine
end Sys2Proof

/-! Proofs. Capture through every command and every step: most work offers triggers at most; a row, arming, disarming, a readout's
end and STANDBY entry are capture's own operations; a reset sets capture anew. -/

namespace Sys2Proof
namespace Machine

open Safety

/-! ### Work that offers triggers at most (R127) -/

/-- Work that reaches capture by offered triggers alone: with no cause in trigger_mask it leaves capture as it was. -/
structure Offers (s t : State) : Prop extends KeepsCapture s t where
  mask : t.ctl.cfg.triggerMask = s.ctl.cfg.triggerMask
  masked : s.ctl.cfg.triggerMask = 0 → t.cap = s.cap

/-- Work that leaves trigger_mask and capture alone. -/
theorem Offers.of_eq {s t : State} (hctl : t.ctl = s.ctl) (hcap : t.cap = s.cap) : Offers s t :=
  ⟨.of_eq hcap, by rw [hctl], fun _ => hcap⟩

theorem Offers.refl (s : State) : Offers s s := .of_eq rfl rfl

theorem Offers.trans {s t u : State} (h : Offers s t) (k : Offers t u) : Offers s u :=
  ⟨h.toKeepsCapture.trans k.toKeepsCapture, k.mask.trans h.mask,
    fun empty => (k.masked (h.mask.trans empty)).trans (h.masked empty)⟩

theorem Offers.ite {s t : State} {c : Prop} [Decidable c] (h : c → Offers s t) : Offers s (if c then t else s) := by
  split
  · next hc => exact h hc
  · exact .refl s

theorem offers_offerTrigger (cause : TriggerCause) (s : State) : Offers s (offerTrigger cause s) :=
  ⟨keepsCapture_offerTrigger cause s, by simp, fun empty => by
    rw [offerTrigger_notTaken cause s (by rw [empty]; cases cause <;> rfl)]⟩

theorem offers_abandonRampOut (s : State) : Offers s (abandonRampOut s) := .of_eq (by simp) (by simp)

theorem offers_queueAlert (a : Alert) (s : State) : Offers s (queueAlert a s) := .of_eq (by simp) (by simp)

/-- An increase of the cut rank offers the trigger of a shed step (R104). -/
theorem offers_increaseCut (cut : Nat) (cause : Option ShedCause) (s : State) : Offers s (increaseCut cut cause s) := by
  have raised : Offers s (raise .shedStep (s.setShed (s.shedRaised cut))) := .of_eq rfl rfl
  have abandoned := (raised.trans (offers_offerTrigger .shedStep _)).trans
    (.ite (c := (offerTrigger .shedStep (raise .shedStep (s.setShed (s.shedRaised cut)))).isGenset = true)
      fun _ => offers_abandonRampOut _)
  cases cause with
  | none => exact abandoned
  | some c => exact abandoned.trans (offers_queueAlert (.shed cut c) _)

theorem offers_evaluateCapacity (s : State) : Offers s (evaluateCapacity s) := .ite fun _ => offers_increaseCut _ _ s

theorem offers_evaluateInRun (s : State) : Offers s (evaluateInRun s) := .ite fun _ => offers_evaluateCapacity s

theorem offers_ladderTest (s : State) : Offers s (ladderTest s) := .ite fun _ => offers_increaseCut _ _ s

theorem offers_deadEntry (s : State) : Offers s (deadEntry s) := .ite fun _ => offers_increaseCut _ _ s

theorem offers_adopt (cut : Nat) (inIsland : Bool) (s : State) : Offers s (adopt cut inIsland s) :=
  .ite fun _ => offers_increaseCut _ _ s

theorem offers_immediateSums (s : State) : Offers s (immediateSums s) :=
  .trans (.of_eq (by simp) (by simp)) (offers_evaluateInRun (deficitAbandons (formSums s)))

theorem offers_deriveTieNow (s : State) : Offers s (deriveTieNow s) := by
  unfold deriveTieNow
  split
  · exact .refl s
  · exact .trans (.of_eq (by simp) (by simp)) (offers_evaluateInRun _)

theorem offers_deriveIf (c : Bool) (s : State) : Offers s (deriveIf c s) := .ite fun _ => offers_deriveTieNow s

/-! ### A sample's hand-offs (R3) -/

/-- A trip offers the trigger of a TRIP ALERT (R59). -/
theorem offers_tripSet (s : State) : Offers s (tripSet s) :=
  .trans (.of_eq (by simp) (by simp)) (offers_offerTrigger .tripHeard
    (raise .unit (sendActuator ((queueAlert (.trip s.ctl.cfg.pRated s.intake.means.p) s).setLs s.ls.tripNow))))

theorem offers_setSettlesOpen (s : State) : Offers s (setSettlesOpen s) := by
  unfold setSettlesOpen
  split
  · split
    · exact .of_eq (by simp) (by simp)
    · exact offers_tripSet s
  · exact .refl s

theorem offers_handSetBreaker (n : BreakerNews) (s : State) : Offers s (handSetBreaker n s) := by
  have raised : Offers s (raiseIf n.any .breaker s) := .of_eq (by simp) (by simp)
  unfold handSetBreaker
  split
  · cases n.reading with
    | closed => exact raised.trans (.of_eq (by simp) (by simp))
    | opened => exact raised.trans (offers_setSettlesOpen _)
    | transit => exact raised
    | discrepant => exact raised
  · exact raised

theorem offers_handUfSet (s : State) : Offers s (handUfSet s) := by
  unfold handUfSet
  split
  · exact (offers_ladderTest s).trans (.of_eq rfl rfl)
  · exact offers_abandonRampOut s

/-- Every hand-off of a sample but the capture row offers triggers at most. -/
theorem offers_handPart (n : SampleNews) (part : SamplePart) (s : State) (h : part ≠ .row) :
    Offers s (handPart n part s) := by
  cases part with
  | row => exact absurd rfl h
  | breakers => exact (offers_handSetBreaker n.setBreaker s).trans (.of_eq (by simp [handPart]) (by simp [handPart]))
  | tie =>
    have raised : Offers s (raiseIf n.tieBreaker.any .breaker s) := .of_eq (by simp) (by simp)
    exact raised.trans (.ite fun _ => offers_deriveTieNow _)
  | ufShed => exact .ite fun _ => offers_handUfSet s
  | ufTrigger => exact .ite fun _ => offers_offerTrigger _ s
  | dead => exact .ite fun _ => offers_deadEntry s

theorem keepsCapture_handPart (n : SampleNews) (part : SamplePart) (s : State) : KeepsCapture s (handPart n part s) := by
  by_cases h : part = .row
  · rw [h]; exact keepsCapture_writeRow _ s
  · exact (offers_handPart n part s h).toKeepsCapture

theorem keepsCapture_acceptSample (x : Sample) (order : List SamplePart) (s : State) :
    KeepsCapture s (acceptSample x order s) :=
  foldl_keeps _ (fun t => KeepsCapture s t) (fun t part h => h.trans (keepsCapture_handPart _ part t)) _ _
    (.of_eq (by simp))

/-! ### Frame arrivals (R34, R38, R39, R40) -/

theorem offers_tripSums (f : Frame) (ratedKw p : Int) (s : State) : Offers s (tripSums f ratedKw p s) := by
  have viewed : Offers s (tripView f ratedKw p s) := .of_eq (by simp) (by simp)
  exact viewed.trans ((offers_deriveIf _ _).trans (offers_immediateSums _))

theorem offers_arriveTrip (f : Frame) (ratedKw p : Int) (captureFirst : Bool) (s : State) :
    Offers s (arriveTrip f ratedKw p captureFirst s) := by
  have heard : Offers s (raise .tripHeard s) := .of_eq rfl rfl
  unfold arriveTrip
  split
  · exact heard.trans ((offers_offerTrigger _ _).trans (offers_tripSums f ratedKw p _))
  · exact heard.trans ((offers_tripSums f ratedKw p _).trans (offers_offerTrigger _ _))

theorem offers_arrive (f : Frame) (captureFirst : Bool) (s : State) : Offers s (arrive f captureFirst s) := by
  have viewed (x : View) : Offers s (s.setView x) := .of_eq rfl rfl
  unfold arrive
  split
  · split
    · exact (viewed _).trans (offers_deriveIf _ _)
    · exact (viewed _).trans (offers_deriveTieNow _)
    · exact offers_arriveTrip f _ _ captureFirst s
    · exact (viewed _).trans (offers_adopt _ _ _)
  · exact .trans (.of_eq (by simp) (by simp)) (offers_deriveIf _ _)

theorem keepsCapture_takeFrame (f : Frame) (captureFirst : Bool) (s : State) :
    KeepsCapture s (takeFrame f captureFirst s) := by
  unfold takeFrame
  split
  · exact .of_eq (by simp)
  · exact (offers_arrive f captureFirst s).toKeepsCapture

theorem keepsCapture_validFrame (line : List Bool) (f : Frame) (captureFirst : Bool) (s : State) :
    KeepsCapture s (validFrame line f captureFirst s) := by
  have taken (t : State) (h : t.cap = s.cap) : KeepsCapture s (takeFrame f captureFirst (endReception 0 t)) :=
    .trans (.of_eq (by simp [h])) (keepsCapture_takeFrame f captureFirst (endReception 0 t))
  unfold validFrame
  cases s.link.flight with
  | none => exact taken s rfl
  | some fl =>
    cases hj : fl.judge line with
    | sent => simp only [hj]; exact .of_eq (by simp)
    | lost => simp only [hj]; exact taken _ (by simp)
    | erred => simp only [hj]; exact taken _ (by simp)

/-! ### A share-timer expiry (R144) -/

theorem offers_capacityWork (tieChange : Bool) (s : State) : Offers s (capacityWork tieChange s) := by
  have zeroed : Offers s (if tieChange then zeroRestore s else s) := .ite fun _ => .of_eq rfl rfl
  exact zeroed.trans (.ite fun _ => offers_evaluateCapacity _)

theorem offers_ladderWork (s : State) : Offers s (ladderWork s) := by
  have timed (step : Option Nat) : Offers s (s.setShed { s.shed with step := step }) := .of_eq rfl rfl
  unfold ladderWork
  split
  · exact .refl s
  · split
    · exact .refl s
    · split
      · exact timed _
      · split
        · exact (timed _).trans (offers_ladderTest _)
        · exact timed _

theorem offers_shedWork (tieChange : Bool) (r : ExpiryRun) : Offers r.state (shedWork tieChange r).state := by
  have counted : Offers r.state (countSettle (rememberLoads r.state)) := .of_eq (by simp) (by simp)
  exact (counted.trans ((offers_capacityWork tieChange _).trans (offers_ladderWork _))).trans
    (.of_eq (by simp [shedWork, ExpiryRun.withState]) (by simp [shedWork, ExpiryRun.withState]))

/-- After the test point the shed unit's triggers alone reach capture. -/
theorem offers_expiryPart (tieChange : Bool) (part : ExpiryPart) (r : ExpiryRun) :
    Offers r.state (expiryPart tieChange part r).state := by
  cases part with
  | loadShare => exact .of_eq (by simp [expiryPart, ExpiryRun.withState]) (by simp [expiryPart, ExpiryRun.withState])
  | demand =>
    refine .of_eq (expiryPart_ctl tieChange .demand r) ?_
    simp only [expiryPart, demandWork]
    split
    · split <;> simp [ExpiryRun.withState, ExpiryRun.note]
    · rfl
  | shed => exact offers_shedWork tieChange r
  | link => exact .of_eq (by simp [expiryPart, ExpiryRun.withState]) (by simp [expiryPart, ExpiryRun.withState])

/-- The staged capture_armed disarms or arms a slot as it changes (R137, R154). -/
theorem keepsCapture_applyStaged (s : State) : KeepsCapture s (applyStaged s) := by
  have taken : KeepsCapture s (takeStaged s) := .of_eq rfl
  refine .ite fun _ => ?_
  dsimp only
  split
  · exact taken.trans (keepsCapture_disarmSlot _)
  · split
    · exact taken.trans (keepsCapture_armSlot _)
    · exact taken

theorem testPoint_cap (r : ExpiryRun) : (testPoint r).state.cap = r.state.cap := by
  cases h : r.state.ctl.station <;> simp only [testPoint, h]
  case listen => split <;> simp [ExpiryRun.note, ExpiryRun.withState]
  case run => split <;> simp [ExpiryRun.withState]
  case fallback =>
    split
    · split <;> simp [ExpiryRun.note, ExpiryRun.withState]
    · simp [ExpiryRun.withState]

theorem keepsCapture_expiryRun (order : List ExpiryPart) (s : State) : KeepsCapture s (expiryRun order s).state := by
  have started : KeepsCapture s (s.setCtl { s.ctl with shareTimer := some 0 }) := .of_eq rfl
  have tested : KeepsCapture s (testPoint { state := atTestPoint s, events := [] }).state :=
    (started.trans (keepsCapture_applyStaged _)).trans (.of_eq ((testPoint_cap _).trans (by simp [atTestPoint])))
  exact foldl_keeps _ (fun r => KeepsCapture s r.state)
    (fun r part h => h.trans (offers_expiryPart _ part r).toKeepsCapture) _ _ tested

/-! ### The service port -/

theorem keepsCapture_enterStandbyState (s : State) : KeepsCapture s (enterStandbyState s) := by
  have ready : KeepsCapture s (standbyReady s) := .of_eq (by simp)
  exact (ready.trans (keepsCapture_standbyCapture _)).trans (.of_eq (by simp [enterStandbyState]))

/-- LISTEN starts the time tag from 0 and arms a slot (R123, R124, R146). -/
theorem keepsCapture_enterListen (s : State) : KeepsCapture s (enterListen s) := by
  refine .trans (.trans (.of_eq ?_) (keepsCapture_tag _ 0 0 0 false)) (keepsCapture_armSlot _)
  simp

theorem keepsCapture_effect (c : Service) (fields : List Byte) (s : State) : KeepsCapture s (c.effect fields s) := by
  cases c with
  | enterStandby => exact .ite fun _ => keepsCapture_enterStandbyState s
  | resume => exact keepsCapture_enterListen s
  | stage => exact .of_eq (by simp [Service.effect])
  | clearTrip => exact .of_eq (by simp [Service.effect])
  | forceCapture => exact keepsCapture_offerTrigger _ s
  | _ => exact .of_eq rfl

theorem keepsCapture_answerCommand (code : Byte) (fields : List Byte) (s : State) :
    KeepsCapture s (answerCommand code fields s) := by
  unfold answerCommand
  split
  · split
    · exact .refl s
    · next c _ => exact (keepsCapture_effect c fields s).trans (.of_eq rfl)
  · exact .of_eq rfl

/-! ### Every command and every step -/

/-- What a command does to capture: it keeps the slots in order and the counter rising, or a reset has set capture anew (R139). -/
def CaptureFollows (s t : State) : Prop := KeepsCapture s t ∨ (t.ctl.station = .init ∧ t.cap = Capture.reset)

theorem captureFollows_resetStation (pins : Straps) (cut : StoreCut) (s : State) :
    CaptureFollows s (resetStation pins cut s) := by
  obtain ⟨hctl, -, -, -, -, -, hcap, -⟩ := resetStation_blocks pins cut s
  exact .inr ⟨by rw [hctl]; rfl, hcap⟩

theorem captureFollows_endSelect (s : State) : CaptureFollows s (endSelect s) := by
  unfold endSelect
  split
  · exact (captureFollows_resetStation s.ctl.pins .before s).imp (·.trans (.of_eq rfl)) id
  · exact .inl (.of_eq rfl)

/-- A command right after a reset finds INIT and is refused as BUSY (R162). -/
theorem captureFollows_serve (code : Byte) (fields : List Byte) (s : State) : CaptureFollows s (serve code fields s) := by
  rcases captureFollows_endSelect s with kept | ⟨hinit, hcap⟩
  · exact .inl (kept.trans (keepsCapture_answerCommand code fields _))
  · have busy : judge code fields (endSelect s) = .busy := if_pos hinit
    rw [serve, answerCommand_refused code fields _ _ busy (by decide)]
    exact .inr ⟨by simpa using hinit, by simpa using hcap⟩

theorem captureFollows_transmitError (s : State) : Machine.Answers (CaptureFollows s) (execTransmitError s) := by
  intro t e
  rcases execTransmitError_cases s t e with ⟨-, rfl⟩ | ⟨fl, -, ⟨-, rfl⟩ | ⟨-, rfl, -⟩⟩
  · exact .inl (.refl _)
  · exact .inl (.of_eq (by simp))
  · exact .inl (.of_eq (by simp))

theorem captureFollows_frameStart (s : State) : Machine.Answers (CaptureFollows s) (execFrameStart s) := by
  unfold execFrameStart
  split
  · cases s.offer with
    | none => exact answers_next (.inl (.refl s))
    | some x => exact answers_next (.inl (.of_eq rfl))
  · exact answers_next (.inl (.refl s))

theorem captureFollows_arbitrationLoss (s : State) : Machine.Answers (CaptureFollows s) (execArbitrationLoss s) := by
  unfold execArbitrationLoss
  cases s.link.flight with
  | none => exact answers_next (.inl (.refl s))
  | some fl => exact answers_next (.inl (.of_eq rfl))

theorem captureFollows_frameReceived (line : List Bool) (captureFirst : Bool) (s : State) :
    Machine.Answers (CaptureFollows s) (execFrameReceived line captureFirst s) := by
  unfold execFrameReceived
  split
  · cases receive line with
    | incomplete => exact answers_next (.inl (.refl s))
    | dropped n => exact answers_next (.inl (.of_eq (by simp)))
    | valid f => exact answers_next (.inl (keepsCapture_validFrame line f captureFirst s))
  · exact answers_next (.inl (.of_eq rfl))

theorem captureFollows_sampleArrival (bytes : List Byte) (order : List SamplePart) (s : State) :
    Machine.Answers (CaptureFollows s) (execSampleArrival bytes order s) := by
  unfold execSampleArrival
  split
  · cases parseSample s.ctl.straps.role bytes with
    | none => exact answers_next (.inl (.refl s))
    | some x => exact answers_next (.inl (keepsCapture_acceptSample x order s))
  · exact answers_next (.inl (.refl s))

theorem captureFollows_transitTimeout (b : Breaker) (s : State) :
    Machine.Answers (CaptureFollows s) (execTransitTimeout b s) := by
  cases b with
  | set => exact answers_ite (.inl (.refl s)) fun _ => .inl (.of_eq rfl)
  | group g => exact answers_ite (.inl (.refl s)) fun _ => .inl (.of_eq rfl)
  | tie =>
    exact answers_ite (.inl (.refl s)) fun _ => .inl (.trans (.of_eq (by simp)) (offers_deriveTieNow _).toKeepsCapture)

theorem captureFollows_statusReadClear (s : State) : Machine.Answers (CaptureFollows s) (execStatusReadClear s) := by
  unfold execStatusReadClear
  split
  · cases s.ctl.cfg.ackMode <;> exact answers_next (.inl (.of_eq rfl))
  · exact answers_next (.inl (.refl s))

theorem captureFollows_storeCompletion (s : State) : Machine.Answers (CaptureFollows s) (execStoreCompletion s) := by
  unfold execStoreCompletion
  split
  · exact answers_next (.inl (.refl s))
  · exact answers_next (.inl (.of_eq rfl))

/-- An event that keeps capture where its condition holds, and no event elsewhere (log entry 9). -/
theorem captureFollows_ite {p : Prop} [Decidable p] {s t : State} (h : p → KeepsCapture s t) :
    Machine.Answers (CaptureFollows s) (if p then .next t else .next s) :=
  answers_ite (.inl (.refl s)) fun hp => .inl (h hp)

theorem exec_captureFollows (c : Instr) (s : State) : Machine.Answers (CaptureFollows s) (exec c s) := by
  have named (e : ExpiryEvent) (order : List ExpiryPart) : CaptureFollows s (namedExpiry e order s) :=
    .inl (.ite fun _ => keepsCapture_expiryRun order s)
  cases c with
  | reset pins cut => exact answers_next (captureFollows_resetStation pins cut s)
  | restartReset pins => exact answers_ite (.inl (.refl s)) fun _ => captureFollows_resetStation pins .before s
  | endOfInit => exact captureFollows_ite fun _ => .of_eq (by simp)
  | sampleArrival bytes order => exact captureFollows_sampleArrival bytes order s
  | measureTimerHeld => exact captureFollows_ite fun _ => .of_eq rfl
  | measureTimerFault =>
    exact captureFollows_ite fun _ => .trans (.of_eq (by simp)) (offers_deriveTieNow _).toKeepsCapture
  | transitTimeout b => exact captureFollows_transitTimeout b s
  | shareTimerExpiry order => exact answers_next (.inl (.ite fun _ => keepsCapture_expiryRun order s))
  | listenEnd order => exact answers_next (named _ order)
  | fallbackExit order => exact answers_next (named _ order)
  | startAttemptTimeout order => exact answers_next (named _ order)
  | stopNeedExpiry order => exact answers_next (named _ order)
  | settleTimerExpiry order => exact answers_next (named _ order)
  | ladderStep order => exact answers_next (named _ order)
  | restorationStep order => exact answers_next (named _ order)
  | confirmTimeout g => exact captureFollows_ite fun _ => .of_eq rfl
  | tripTimeout => exact captureFollows_ite fun _ => .of_eq rfl
  | stopPulseEnd => exact captureFollows_ite fun _ => .of_eq rfl
  | timeTagWrap => exact captureFollows_ite fun _ => keepsCapture_tag s _ _ _ _
  | attentionPulseEnd => exact captureFollows_ite fun _ => .of_eq rfl
  | lineIdle => exact captureFollows_ite fun _ => .of_eq rfl
  | lineBusy => exact answers_next (.inl (.of_eq rfl))
  | frameStart => exact captureFollows_frameStart s
  | arbitrationLoss => exact captureFollows_arbitrationLoss s
  | transmitError => exact captureFollows_transmitError s
  | frameReceived line captureFirst => exact captureFollows_frameReceived line captureFirst s
  | readoutComplete => exact captureFollows_ite fun _ => .trans (.of_eq (by simp)) (keepsCapture_freeHead _)
  | statusReadClear => exact captureFollows_statusReadClear s
  | storeCompletion => exact captureFollows_storeCompletion s
  | selectDeassert => exact answers_next (captureFollows_endSelect s)
  | _ => exact answers_next (captureFollows_serve _ _ s)

/-- A microsecond counts the time tag and moves no slot. -/
theorem keepsCapture_idle (s : State) : KeepsCapture s (idle s) := by
  have advanced : KeepsCapture s (advance s) := by
    obtain ⟨hslots, hlist, hcounter, -⟩ := Capture.tick_kept s.ctl.station.active s.cap
    exact .of_slots (fun h => h.congr hslots hlist) hcounter
  rw [idle_eq]
  split
  · exact advanced
  · exact advanced.trans (.of_eq rfl)

theorem captureOk_of_follows {s t : State} (h : captureOk s) (k : CaptureFollows s t) : captureOk t := by
  rw [captureOk_iff] at h ⊢
  rcases k with kept | ⟨-, hcap⟩
  · exact kept.slots h
  · rw [hcap]; exact slotsOk_reset

/-- Settles O9: capture's own operations keep the slots in order, all other work offers triggers at most, and a reset frees every
slot. -/
theorem stepKeepsCaptureSlots : Obligations.StepKeepsCaptureSlots := by
  unfold Obligations.StepKeepsCaptureSlots
  intro s t ok e
  unfold step at e
  cases hq : s.pending with
  | nil => rw [hq] at e; exact answers_next (captureOk_of_follows ok (.inl (keepsCapture_idle s))) t e
  | cons c rest =>
    rw [hq] at e
    exact captureOk_of_follows (s := { s with pending := rest }) ok (exec_captureFollows c { s with pending := rest } t e)

/-- Settles O15: only an offered trigger counts, upwards and to the counter's end, and a reset sets it to 0. -/
theorem captureCounterNeverFalls : Obligations.CaptureCounterNeverFalls := by
  unfold Obligations.CaptureCounterNeverFalls
  intro c s t hle e
  rcases exec_captureFollows c s t e with kept | ⟨hinit, hcap⟩
  · exact .inl ⟨kept.rises, kept.bounded hle⟩
  · exact .inr ⟨hinit, by rw [hcap]; rfl⟩

end Machine
end Sys2Proof

/-! Proofs. READ-CAPTURE and the end of its readout: the record's bytes, the slot freed, the slot that arms after it (R124, R135,
R136, R166, R178). -/

namespace Sys2Proof
namespace Machine

open Safety

/-- The station with the select period before a command ended (R161). -/
def afterSelect (s : State) : State := s.setPort { s.port with phase := .waiting }

theorem endSelect_eq_afterSelect (s : State) (hr : noRestart s) : endSelect s = afterSelect s := endSelect_eq s hr

/-- Past INIT, with no RESTART waiting, a command of no field that is never refused is accepted (R161, R162). -/
theorem serve_accepted (code : Byte) (c : Service) (s : State) (hr : noRestart s) (hi : s.ctl.station ≠ .init)
    (hc : Service.ofCode code = some c) (hlength : c.fieldLength = 0) (hrefusal : ∀ t, c.refusal [] t = none) :
    serve code [] s = accept c [] (afterSelect s) := by
  have judged : judge code [] (afterSelect s) = .accepted := by
    rw [judge, if_neg (by simpa [afterSelect] using hi), hc]
    simp [hlength, hrefusal]
  rw [serve, endSelect_eq_afterSelect s hr, answerCommand_accepted code [] _ c judged hc]

/-! ### READ-CAPTURE (R135, R166, R178) -/

theorem exec_readCapture (s : State) (hr : noRestart s) (hi : s.ctl.station ≠ .init) :
    exec (.readCapture []) s =
      .next (answerWith .accepted s.captureReply (if s.cap.readyList = [] then .plain else .readout)
        (afterSelect s)) :=
  congrArg Host.Outcome.next (serve_accepted 0x05 .readCapture s hr hi rfl rfl fun _ => rfl)

/-- The reply is the count of READY records and the bytes of the record at the head, if there is one. -/
theorem captureReply_eq (s : State) :
    s.captureReply = byteOf s.cap.readyList.length :: (s.cap.headRecord.map Record.reply).getD [] := by
  unfold State.captureReply
  cases s.cap.headRecord <;> rfl

theorem headRecord_nil (c : Capture) (h : c.readyList = []) : c.headRecord = none := by
  simp only [Capture.headRecord, h]

theorem headRecord_cons (c : Capture) (i : SlotNo) (rest : List SlotNo) (rec : Record) (h : c.readyList = i :: rest)
    (hrec : c.slots[i] = .ready rec) : c.headRecord = some rec := by
  simp only [Capture.headRecord, h, hrec]

theorem length_rowReply (r : Row) : r.reply.length = 11 := by simp [Row.reply]

theorem length_headerReply (h : Header) : h.reply.length = 28 := by simp [Header.reply, tagBytes]

/-- A record's bytes: 28 of its header and 11 of each row (R178). -/
theorem length_recordReply (rec : Record) :
    rec.reply.length = 28 + 11 * rec.pre.length + 11 * rec.post.length := by
  have rows (l : List Row) : (l.flatMap Row.reply).length = 11 * l.length := by
    simp [List.length_flatMap, length_rowReply, Nat.mul_comm]
  simp [Record.reply, length_headerReply, rows, Nat.add_assoc]

/-! ### Arming (R124) -/

theorem armSlot_arms (s : State) (k : SlotNo) (hon : s.ctl.cfg.tun.captureArmed = true)
    (hactive : s.ctl.station.active = true) (hnone : s.cap.activeSlot = none) (hfree : s.cap.freeSlot = some k) :
    armSlot s = s.setCap (s.cap.setSlot k (.armed [])) := by
  rw [armSlot, if_pos ⟨hon, hactive, hnone⟩]
  simp only [hfree]

theorem armSlot_still (s : State)
    (h : s.ctl.cfg.tun.captureArmed = false ∨ s.ctl.station.active = false ∨ ∃ j : SlotNo, s.cap.slots[j].active = true) :
    armSlot s = s := by
  refine if_neg fun ⟨hon, hactive, hnone⟩ => ?_
  rcases h with off | idle | ⟨j, hj⟩
  · rw [hon] at off; exact absurd off (by decide)
  · rw [hactive] at idle; exact absurd idle (by decide)
  · rw [activeSlot_none _ hnone j] at hj; exact absurd hj (by decide)

/-- Arming changes a FREE slot at most, and nothing else of capture. -/
theorem armSlot_cap (s : State) :
    (armSlot s).cap = { s.cap with slots := (armSlot s).cap.slots } ∧
    ∀ i : SlotNo, s.cap.slots[i] ≠ .free → (armSlot s).cap.slots[i] = s.cap.slots[i] := by
  rcases armSlot_cases s with e | ⟨k, -, hfree, e⟩ <;> rw [e]
  · exact ⟨rfl, fun _ _ => rfl⟩
  · refine ⟨rfl, fun i hi => ?_⟩
    have apart : i ≠ k := fun h => hi (h ▸ freeSlot_free _ k hfree)
    exact (setSlot_slots _ k i _).trans (if_neg apart)

/-! ### The end of a readout (R136) -/

/-- Capture with the slot at the head of the ready list freed, before any slot arms. -/
def Capture.unlisted (c : Capture) (i : SlotNo) (rest : List SlotNo) : Capture :=
  { c.setSlot i .free with readyList := rest }

theorem unlisted_slots (c : Capture) (i : SlotNo) (rest : List SlotNo) (j : SlotNo) :
    (c.unlisted i rest).slots[j] = if j = i then .free else c.slots[j] :=
  setSlot_slots c i j .free

theorem exec_readoutComplete (s : State) (i : SlotNo) (rest : List SlotNo) (hp : s.port.phase = .replying .readout)
    (hlist : s.cap.readyList = i :: rest) :
    exec .readoutComplete s = .next (armSlot ((s.setPort s.port.settled).setCap (s.cap.unlisted i rest))) := by
  refine (if_pos hp).trans ?_
  simp only [freeHead, State.setPort_cap, hlist]
  rfl

/-- With the freed slot FREE there is a lowest-numbered FREE slot: the freed one or one below it that was FREE. -/
theorem unlisted_freeSlot (c : Capture) (i : SlotNo) (rest : List SlotNo) :
    ∃ k, (c.unlisted i rest).freeSlot = some k ∧ (k = i ∨ c.slots[k] = .free) ∧
      ∀ j : SlotNo, j < k → j ≠ i ∧ c.slots[j] ≠ .free := by
  have freed : (c.unlisted i rest).slots[i] = .free := by rw [unlisted_slots, if_pos rfl]
  cases found : (c.unlisted i rest).freeSlot with
  | none => exact absurd ((isFree_iff _).2 freed) (List.find?_eq_none.1 found i (mem_slotNumbers i))
  | some k =>
    obtain ⟨free, first⟩ := (freeSlot_eq_some_iff _ k).1 found
    refine ⟨k, rfl, ?_, fun j hj => ?_⟩
    · rw [unlisted_slots] at free
      split at free
      · next hk => exact .inl hk
      · exact .inr free
    · have taken := first j hj
      rw [unlisted_slots] at taken
      split at taken
      · exact absurd rfl taken
      · next apart => exact ⟨apart, taken⟩

/-- Settles O60: the reply by what stands at the head of the ready list; the arming after the slot is freed by whether R124 lets a
slot arm. -/
theorem readoutFreesHeadSlot : Obligations.ReadoutFreesHeadSlot := by
  unfold Obligations.ReadoutFreesHeadSlot
  refine fun s => ⟨fun hr hi => ?_, fun i rest hp hlist => ?_⟩
  · refine ⟨_, (s.cap.headRecord.map Record.reply).getD [], exec_readCapture s hr hi, ⟨rfl, ?_⟩, fun hnone => ?_,
      fun i rest rec hlist hrec => ?_, ⟨rfl, rfl, rfl, rfl, rfl⟩, by simp [Kept, afterSelect]⟩
    · exact congrArg (Result.accepted.code :: ·) (captureReply_eq s)
    · rw [headRecord_nil _ hnone]; rfl
    · rw [headRecord_cons _ i rest rec hlist hrec]
      exact ⟨rfl, length_recordReply rec⟩
  · obtain ⟨kept, -⟩ := armSlot_cap ((s.setPort s.port.settled).setCap (s.cap.unlisted i rest))
    refine ⟨_, exec_readoutComplete s i rest hp hlist, by rw [kept]; rfl, by simp [Port.settled], by rw [kept]; rfl,
      by rw [kept]; rfl, by simp [Kept], fun hon hactive alone => ?_, fun still j => ?_⟩
    · obtain ⟨k, found, which, first⟩ := unlisted_freeSlot s.cap i rest
      have inactive : (s.cap.unlisted i rest).activeSlot = none := activeSlot_eq_none _ fun j => by
        rw [unlisted_slots]
        split
        · rfl
        · next hj => exact alone j hj
      rw [armSlot_arms ((s.setPort s.port.settled).setCap (s.cap.unlisted i rest)) k hon hactive inactive found]
      refine ⟨k, (setSlot_slots _ k k _).trans (if_pos rfl), which, first, fun j hj => ?_⟩
      exact (setSlot_slots _ k j _).trans ((if_neg hj).trans (unlisted_slots _ i rest j))
    · rw [armSlot_still]
      · exact unlisted_slots _ i rest j
      · refine still.imp id (.imp id fun ⟨j, hj, active⟩ => ⟨j, ?_⟩)
        have stands : (s.cap.unlisted i rest).slots[j] = s.cap.slots[j] := (unlisted_slots _ i rest j).trans (if_neg hj)
        exact (congrArg Slot.active stands).trans active

end Machine
end Sys2Proof

/-! Proofs. FORCE-CAPTURE and the rows: a trigger judged by the slots it meets, its outcome by the judgment, and what a sample's row
joins (R125 to R132, R167). -/

namespace Sys2Proof
namespace Machine

open Safety

/-! ### The judgment of a trigger (R127, R128, R129, R131) -/

section Judgment

variable (cause : TriggerCause) (s : State)

/-- A trigger in trigger_mask reaches a station that takes triggers: capture_armed on, in RUN, FALLBACK or SILENT. -/
structure TriggerTaken : Prop where
  masked : s.ctl.cfg.triggerMask.getLsbD cause.bitIndex = true
  armed : s.ctl.cfg.tun.captureArmed = true
  working : s.ctl.station.working = true

theorem judgeTrigger_idle (masked : s.ctl.cfg.triggerMask.getLsbD cause.bitIndex = true)
    (idle : s.ctl.cfg.tun.captureArmed = false ∨ s.ctl.station.working = false) :
    judgeTrigger cause s = .refused .a := by
  rw [judgeTrigger, if_neg (by simp [masked]), if_pos idle]

variable {cause s} (taken : TriggerTaken cause s)
include taken

/-- A taken trigger is judged by the active slot. -/
theorem judgeTrigger_noSlot (hnone : s.cap.activeSlot = none) : judgeTrigger cause s = .refused .b := by
  simp [judgeTrigger, taken.masked, taken.armed, taken.working, hnone]

variable {i : SlotNo} (hi : s.cap.activeSlot = some i)
include hi

theorem judgeTrigger_armed {ring : List RawRow} (hring : s.cap.slots[i] = .armed ring) :
    judgeTrigger cause s = if ring.length < s.ctl.cfg.pre then .refused .c else .started := by
  simp [judgeTrigger, taken.masked, taken.armed, taken.working, hi, hring]

variable {rec : Record} (hrec : s.cap.slots[i] = .post rec)
include hrec

theorem judgeTrigger_closed (h : s.ctl.cfg.overlapAccept = false) : judgeTrigger cause s = .refused .d := by
  simp [judgeTrigger, taken.masked, taken.armed, taken.working, hi, hrec, h]

theorem judgeTrigger_full (h : s.ctl.cfg.overlapAccept = true) (hfree : s.cap.freeSlot = none) :
    judgeTrigger cause s = .refused .b := by
  simp [judgeTrigger, taken.masked, taken.armed, taken.working, hi, hrec, h, hfree]

theorem judgeTrigger_overlap {j : SlotNo} (h : s.ctl.cfg.overlapAccept = true) (hfree : s.cap.freeSlot = some j) :
    judgeTrigger cause s = .overlap := by
  simp [judgeTrigger, taken.masked, taken.armed, taken.working, hi, hrec, h, hfree]

end Judgment

/-! ### The outcome by the judgment (R129, R131, R132) -/

section Outcome

variable {cause : TriggerCause} {s : State}

/-- A refusal counts as count_mode says, and raises RECORD-FULL where it is (b) (R128, R132). -/
theorem offerTrigger_refused {r : Refused} (h : judgeTrigger cause s = .refused r) :
    offerTrigger cause s = raiseIf (decide (r = .b)) .recordFull
      (s.setCap { s.cap with counter := countTrigger s.ctl.cfg.countMode (.refused r) s.cap.counter }) := by
  simp only [offerTrigger, h]
  cases r <;> rfl

/-- A start makes the ARMED slot POST with the ring's rows before the trigger (R129). -/
theorem offerTrigger_started {i : SlotNo} {ring : List RawRow} (h : judgeTrigger cause s = .started)
    (hi : s.cap.activeSlot = some i) (hring : s.cap.slots[i] = .armed ring) :
    offerTrigger cause s = s.setCap { s.cap.setSlot i (.post (openRecord cause ring (countUp s.cap.counter) s)) with
      counter := countUp s.cap.counter } := by
  simp only [offerTrigger, acceptTrigger, countTrigger, h, hi, hring]
  rfl

/-- An overlap closes the POST record and opens one in the FREE slot (R131). -/
theorem offerTrigger_overlap {i j : SlotNo} {rec : Record} (h : judgeTrigger cause s = .overlap)
    (hi : s.cap.activeSlot = some i) (hrec : s.cap.slots[i] = .post rec) (hfree : s.cap.freeSlot = some j) :
    offerTrigger cause s = raise .recordReady (s.setCap
      { (s.cap.close i rec.overlapped).setSlot j (.post (openRecord cause [] (countUp s.cap.counter) s)) with
        counter := countUp s.cap.counter }) := by
  simp only [offerTrigger, acceptTrigger, countTrigger, h, hi, hrec, hfree]
  rfl

end Outcome

/-- The counter at a refusal: counted in count_mode ALL only, up to its end (R132). -/
theorem countTrigger_refused (mode : CountMode) (r : Refused) (n : Nat) :
    countTrigger mode (.refused r) n = if mode = .all ∧ n < 4294967295 then n + 1 else n := by
  cases mode with
  | accepted => simp [countTrigger]
  | all => simp only [countTrigger, countUp, true_and]; rfl

/-- The outcome bytes 3 to 6 are those of the refusals, 4 that of (b) (R167, R178). -/
theorem refused_of_code (o : TriggerOutcome)
    (h : byteOf o.portCode = 3 ∨ byteOf o.portCode = 4 ∨ byteOf o.portCode = 5 ∨ byteOf o.portCode = 6) :
    ∃ r, o = .refused r ∧ (byteOf o.portCode = 4 ↔ r = .b) := by
  cases o with
  | notTaken => exact absurd h (by decide)
  | started => exact absurd h (by decide)
  | overlap => exact absurd h (by decide)
  | refused r => exact ⟨r, rfl, by cases r <;> decide⟩

/-- The slots after an overlap: the one closed, the one opened, the others as they were (R131). -/
theorem overlap_slots (c : Capture) {i j : SlotNo} (rec : Record) (x : Slot) (h : j ≠ i) :
    ((c.close i rec).setSlot j x).slots[i] = .ready rec ∧ ((c.close i rec).setSlot j x).slots[j] = x ∧
    ∀ k : SlotNo, k ≠ i → k ≠ j → ((c.close i rec).setSlot j x).slots[k] = c.slots[k] := by
  refine ⟨?_, ?_, fun k hki hkj => ?_⟩
  · rw [setSlot_slots, if_neg h.symm, close_slots, if_pos rfl]
  · rw [setSlot_slots, if_pos rfl]
  · rw [setSlot_slots, if_neg hkj, close_slots, if_neg hki]

/-! ### FORCE-CAPTURE (R167) -/

theorem exec_forceCapture (s : State) (hr : noRestart s) (hi : s.ctl.station ≠ .init) :
    exec (.forceCapture []) s =
      .next (answerWith .accepted s.forceReply .plain (offerTrigger .forced (afterSelect s))) :=
  congrArg Host.Outcome.next (serve_accepted 0x11 .forceCapture s hr hi rfl rfl fun _ => rfl)

/-- The reply gives the judgment and the counter as the offer leaves it. -/
theorem forceReply_eq (s : State) :
    s.forceReply = byteOf (judgeTrigger .forced s).portCode :: natBytes 4 (offerTrigger .forced s).cap.counter := by
  rw [offerTrigger_cap]
  rfl

section Forced

variable {cause : TriggerCause} {s : State}

/-- A refused trigger moves the counter at most, and raises RECORD-FULL exactly at refusal (b) (R128, R132). -/
theorem offerTrigger_refused_spec {r : Refused} (h : judgeTrigger cause s = .refused r) :
    (offerTrigger cause s).cap = { s.cap with counter := (offerTrigger cause s).cap.counter } ∧
    (offerTrigger cause s).cap.counter =
      (if s.ctl.cfg.countMode = .all ∧ s.cap.counter < 4294967295 then s.cap.counter + 1 else s.cap.counter) ∧
    (r = .b → flagOf (offerTrigger cause s) .recordFull = true) ∧ (r ≠ .b → sameFlags s (offerTrigger cause s)) ∧
    ∀ f, f ≠ .recordFull → flagOf (offerTrigger cause s) f = flagOf s f := by
  rw [offerTrigger_refused h]
  refine ⟨by simp, by simp [countTrigger_refused], fun hb => by simp [hb], fun hb => ?_, fun f hf => ?_⟩
  · rw [decide_eq_false hb]
    exact ⟨rfl, rfl, rfl, rfl, rfl⟩
  · rw [flagOf_raiseIf, decide_eq_false hf.symm, Bool.and_false, Bool.or_false]
    rfl

/-- A start's record: numbered by the counter, with the cause, the cut rank and the ring's rows before the trigger (R129, R134). -/
theorem offerTrigger_started_spec {i : SlotNo} {ring : List RawRow} (h : judgeTrigger cause s = .started)
    (hi : s.cap.activeSlot = some i) (hring : s.cap.slots[i] = .armed ring) :
    (offerTrigger cause s).cap.counter = countUp s.cap.counter ∧ sameFlags s (offerTrigger cause s) ∧
    ∃ rec, (offerTrigger cause s).cap.slots[i] = .post rec ∧ rec.header.number = (offerTrigger cause s).cap.counter ∧
      rec.header.cause = cause ∧ rec.header.cut = s.shed.cut ∧ rec.pre.map Row.raw = ring ∧ rec.post = [] ∧
      ∀ j : SlotNo, j ≠ i → (offerTrigger cause s).cap.slots[j] = s.cap.slots[j] := by
  rw [offerTrigger_started h hi hring]
  refine ⟨rfl, ⟨rfl, rfl, rfl, rfl, rfl⟩, openRecord cause ring (countUp s.cap.counter) s,
    (setSlot_slots _ i i _).trans (if_pos rfl), rfl, rfl, rfl, ?_, rfl, fun j hj => (setSlot_slots _ i j _).trans (if_neg hj)⟩
  simp [openRecord, RawRow.at, Function.comp_def]

/-- An overlap's two records: the old one READY with its overlap mark, the new one with no rows (R131, R134). -/
theorem offerTrigger_overlap_spec {i j : SlotNo} {rec : Record} (h : judgeTrigger cause s = .overlap)
    (hi : s.cap.activeSlot = some i) (hrec : s.cap.slots[i] = .post rec) (hfree : s.cap.freeSlot = some j) :
    (offerTrigger cause s).cap.counter = countUp s.cap.counter ∧
    (offerTrigger cause s).cap.slots[i] = .ready rec.overlapped ∧
    (offerTrigger cause s).cap.readyList = s.cap.readyList ++ [i] ∧ flagOf (offerTrigger cause s) .recordReady = true ∧
    (∃ new, (offerTrigger cause s).cap.slots[j] = .post new ∧ new.header.number = (offerTrigger cause s).cap.counter ∧
      new.header.cause = cause ∧ new.header.tag = s.cap.tag ∧ new.header.preRows = 0 ∧ new.header.postRows = 0 ∧
      new.pre = [] ∧ new.post = []) ∧
    ∀ k : SlotNo, k ≠ i → k ≠ j → (offerTrigger cause s).cap.slots[k] = s.cap.slots[k] := by
  have apart : j ≠ i := fun he => by
    have free := freeSlot_free _ j hfree
    rw [he, hrec] at free
    exact absurd free (by simp)
  obtain ⟨closed, opened, others⟩ :=
    overlap_slots s.cap rec.overlapped (.post (openRecord cause [] (countUp s.cap.counter) s)) apart
  rw [offerTrigger_overlap h hi hrec hfree]
  exact ⟨rfl, closed, rfl, by simp, ⟨_, opened, rfl, rfl, rfl, rfl, rfl, rfl, rfl⟩, others⟩

end Forced

/-! ### Rows (R125, R126, R130) -/

/-- The ring holds the most recent rows (R125). -/
theorem ringWith_suffix (pre : Nat) (ring : List RawRow) (r : RawRow) : ringWith pre ring r <:+ ring ++ [r] :=
  List.drop_suffix _ _

theorem length_ringWith (pre : Nat) (ring : List RawRow) (r : RawRow) :
    (ringWith pre ring r).length = min (ring.length + 1) pre := by
  simp only [ringWith, List.length_drop, List.length_append, List.length_singleton]
  omega

theorem rows_append (rec : Record) (r : RawRow) : (rec.append r).rows = rec.pre.length + rec.post.length + 1 := by
  simp [Record.append, Record.rows, Nat.add_assoc]

section Rows

variable (r : RawRow) (s : State) {i : SlotNo} (hi : s.cap.activeSlot = some i)
include hi

theorem writeRow_armed {ring : List RawRow} (hring : s.cap.slots[i] = .armed ring) :
    writeRow r s = s.setCap (s.cap.setSlot i (.armed (ringWith s.ctl.cfg.pre ring r))) := by
  simp only [writeRow, hi, hring]

variable {rec : Record} (hrec : s.cap.slots[i] = .post rec)
include hrec

theorem writeRow_grows (h : rec.pre.length + rec.post.length + 1 < 256) :
    writeRow r s = s.setCap (s.cap.setSlot i (.post (rec.append r))) := by
  rw [← rows_append rec r] at h
  simp only [writeRow, hi, hrec]
  exact if_neg (by omega)

theorem writeRow_closes (h : 256 ≤ rec.pre.length + rec.post.length + 1) :
    writeRow r s = armSlot (raise .recordReady (s.setCap (s.cap.close i (rec.append r)))) := by
  rw [← rows_append rec r] at h
  simp only [writeRow, hi, hrec]
  exact if_pos h

/-- The record that its last row completes is READY at the tail of the ready list, with RECORD-READY raised, whatever slot arms
after it (R124, R130). -/
theorem writeRow_closes_spec (h : 256 ≤ rec.pre.length + rec.post.length + 1) :
    (writeRow r s).cap.slots[i] = .ready (rec.append r) ∧ (writeRow r s).cap.readyList = s.cap.readyList ++ [i] ∧
    flagOf (writeRow r s) .recordReady = true := by
  have closed : (s.cap.close i (rec.append r)).slots[i] = .ready (rec.append r) :=
    (close_slots _ i i _).trans (if_pos rfl)
  obtain ⟨kept, stands⟩ := armSlot_cap (raise .recordReady (s.setCap (s.cap.close i (rec.append r))))
  rw [writeRow_closes r s hi hrec h]
  refine ⟨(stands i ?_).trans closed, by rw [kept]; rfl, ?_⟩
  · rw [show (raise .recordReady (s.setCap (s.cap.close i (rec.append r)))).cap.slots[i] = _ from closed]
    simp
  · rw [flagOf_congr (armSlot_port _)]
    simp

end Rows

/-! ### The row of an accepted sample (R126) -/

theorem armSlot_cap_congr {s t : State} (hctl : t.ctl = s.ctl) (hcap : t.cap = s.cap) : (armSlot t).cap = (armSlot s).cap := by
  simp only [armSlot, hctl, hcap]
  split
  · cases s.cap.freeSlot with
    | none => exact hcap
    | some k => rfl
  · exact hcap

/-- What a row makes of capture reads station control and capture alone. -/
theorem writeRow_cap_congr (r : RawRow) {s t : State} (hctl : t.ctl = s.ctl) (hcap : t.cap = s.cap) :
    (writeRow r t).cap = (writeRow r s).cap := by
  cases hi : s.cap.activeSlot with
  | none => simp only [writeRow, hcap, hi]
  | some i =>
    have hit : t.cap.activeSlot = some i := by rw [hcap, hi]
    have active := activeSlot_active _ i hi
    cases hs : s.cap.slots[i] with
    | free => simp [hs, Slot.active] at active
    | ready rec => simp [hs, Slot.active] at active
    | armed ring =>
      rw [writeRow_armed r s hi hs, writeRow_armed r t hit (by rw [hcap, hs]), hctl, hcap]
      rfl
    | post rec =>
      have hst : t.cap.slots[i] = .post rec := by rw [hcap, hs]
      by_cases h : rec.pre.length + rec.post.length + 1 < 256
      · rw [writeRow_grows r s hi hs h, writeRow_grows r t hit hst h, hcap]
        rfl
      · rw [writeRow_closes r s hi hs (by omega), writeRow_closes r t hit hst (by omega)]
        exact armSlot_cap_congr hctl (by simp [hcap])

/-- A sample's row reads station control and capture, and the cut rank as it stands. -/
theorem rowOf_congr (n : SampleNews) {s t : State} (hctl : t.ctl = s.ctl) (hcap : t.cap = s.cap) :
    t.rowOf n = { s.rowOf n with cut := t.shed.cut } := by
  unfold State.rowOf State.presentLoad State.groupPresent State.isFeeder State.isGenset
  rw [hctl, hcap]

/-- A sample's hand-offs never lower the cut rank (R103). -/
theorem cut_le_handPart (n : SampleNews) (part : SamplePart) (s : State) : s.shed.cut ≤ (handPart n part s).shed.cut := by
  by_cases h : part = .breakers
  · rw [h, handPart, handGroupBreakers_shed, handSetBreaker_shed]
  · rcases (follows_handPart n part s h).cut with ⟨same, -⟩ | ⟨risen, -⟩
    · exact same.ge
    · exact risen.le

/-- With no cause in trigger_mask a sample reaches capture by its row alone, at the cut rank of the row's turn among the hand-offs. -/
theorem acceptSample_row (x : Sample) (order : List SamplePart) (s : State) (hmask : s.ctl.cfg.triggerMask = 0) :
    ∃ cut, s.shed.cut ≤ cut ∧ cut ≤ (acceptSample x order s).shed.cut ∧
      (acceptSample x order s).cap = (writeRow { s.rowOf (s.sampleNews x) with cut := cut } s).cap := by
  refine acceptSample_through x order s .row (fun t => t.cap = s.cap ∧ s.shed.cut ≤ t.shed.cut)
    (fun t => ∃ cut, s.shed.cut ≤ cut ∧ cut ≤ t.shed.cut ∧
      t.cap = (writeRow { s.rowOf (s.sampleNews x) with cut := cut } s).cap)
    (fun t q hq hctl ⟨hcap, hcut⟩ => ?_) (fun t hctl _ ⟨hcap, hcut⟩ => ?_)
    (fun t q hq hctl ⟨cut, hlo, hhi, hcap⟩ => ?_) ⟨by simp, by simp⟩
  · exact ⟨((offers_handPart _ q t hq).masked (by rw [hctl]; exact hmask)).trans hcap, hcut.trans (cut_le_handPart _ q t)⟩
  · refine ⟨t.shed.cut, hcut, cut_le_handPart _ .row t, ?_⟩
    rw [handPart, rowOf_congr _ hctl hcap]
    exact writeRow_cap_congr _ hctl hcap
  · exact ⟨cut, hlo, hhi.trans (cut_le_handPart _ q t),
      ((offers_handPart _ q t hq).masked (by rw [hctl]; exact hmask)).trans hcap⟩

/-- The sum of the present groups' loads is that of the present groups of a feeder station (R126). -/
theorem presentLoad_feeder (s : State) (x : Sample) (h : s.isFeeder = true) :
    s.presentLoad x = total (groupNumbers.map (fun g => if s.ctl.cfg.present[g] then x.loads[g] else 0)) := by
  simp [State.presentLoad, State.groupPresent, h]

/-- Settles O59: FORCE-CAPTURE by the judgment of its trigger, a row by what the active slot holds, and a sample by the turn of its
row. -/
theorem forceCaptureOffersTrigger : Obligations.ForceCaptureOffersTrigger := by
  unfold Obligations.ForceCaptureOffersTrigger
  refine ⟨fun s hr hinit => ?_, fun r s i hi => ⟨fun ring hring => ?_, fun rec grown hrec hgrown => ?_⟩,
    fun bytes order s x ha hx hmask => ?_⟩
  · have taken (masked : s.ctl.cfg.triggerMask.getLsbD 3 = true) (working : s.ctl.station.working = true)
        (armed : s.ctl.cfg.tun.captureArmed = true) : TriggerTaken .forced (afterSelect s) := ⟨masked, armed, working⟩
    refine ⟨_, byteOf (judgeTrigger .forced (afterSelect s)).portCode, exec_forceCapture s hr hinit,
      ⟨rfl, congrArg (Result.accepted.code :: ·) (forceReply_eq (afterSelect s))⟩, offerTrigger_ctl _ _, offerTrigger_shed _ _,
      offerTrigger_ls _ _, fun unmasked => ?_, fun masked standby => ?_, fun i ring masked working armed hi hring hpre => ?_,
      fun _ code => ?_, fun masked idle => ?_, fun masked working armed => ⟨fun ready => ?_, fun i ring hi hring hpre => ?_,
        fun i rec hi hrec => ⟨fun off => ?_, fun on full => ?_, fun j on free first => ?_⟩⟩⟩
    · have judged : judgeTrigger .forced (afterSelect s) = .notTaken := if_pos unmasked
      rw [judged, offerTrigger_notTaken .forced (afterSelect s) unmasked]
      exact ⟨rfl, rfl, rfl, rfl, rfl, rfl, rfl⟩
    · have judged := judgeTrigger_idle .forced (afterSelect s) masked
        (.inr (show s.ctl.station.working = false by rw [standby]; rfl))
      obtain ⟨kept, -⟩ := offerTrigger_refused_spec judged
      refine ⟨by rw [judged]; rfl, ?_⟩
      rw [answerWith_cap, kept]
      rfl
    · have judged := (judgeTrigger_armed (taken masked working armed) hi hring).trans (if_neg (Nat.not_lt.2 hpre))
      obtain ⟨counted, flags, record⟩ := offerTrigger_started_spec judged hi hring
      exact ⟨by rw [judged]; rfl, counted, flags, record⟩
    · obtain ⟨r, judged, full⟩ := refused_of_code _ code
      obtain ⟨kept, counted, raised, flags, others⟩ := offerTrigger_refused_spec judged
      exact ⟨kept, counted, fun h => raised (full.1 h), fun h => flags (mt full.2 h), others⟩
    · rw [judgeTrigger_idle .forced (afterSelect s) masked idle]; rfl
    · have inactive : (afterSelect s).cap.activeSlot = none :=
        activeSlot_eq_none _ fun i => active_of_isReady (ready i)
      rw [judgeTrigger_noSlot (taken masked working armed) inactive]; rfl
    · rw [(judgeTrigger_armed (taken masked working armed) hi hring).trans (if_pos hpre)]; rfl
    · rw [judgeTrigger_closed (taken masked working armed) hi hrec off]; rfl
    · rw [judgeTrigger_full (taken masked working armed) hi hrec on (freeSlot_eq_none _ full)]; rfl
    · have hfree : (afterSelect s).cap.freeSlot = some j := (freeSlot_eq_some_iff _ j).2 ⟨free, first⟩
      have judged := judgeTrigger_overlap (taken masked working armed) hi hrec on hfree
      obtain ⟨counted, closed, listed, raised, opened, others⟩ := offerTrigger_overlap_spec judged hi hrec hfree
      exact ⟨by rw [judged]; rfl, counted, closed, listed, raised, opened, others⟩
  · exact ⟨_, congrArg State.cap (writeRow_armed r s hi hring), ringWith_suffix _ ring r, fun _ => length_ringWith _ ring r⟩
  · have appended : grown = rec.append r := hgrown
    rw [appended]
    exact ⟨fun h => congrArg State.cap (writeRow_grows r s hi hrec h), writeRow_closes_spec r s hi hrec⟩
  · obtain ⟨cut, hlo, hhi, hcap⟩ := acceptSample_row x order s hmask
    exact ⟨_, _, exec_sampleArrival bytes order s x ha hx, hcap, rfl, rfl, rfl, rfl, rfl, fun hg => if_pos hg,
      fun hf => (if_neg (by simp [isGenset_of_feeder s ((isFeeder_iff s).1 hf)])).trans (presentLoad_feeder s x hf), rfl, hlo,
      hhi⟩

end Machine
end Sys2Proof

/-! Proofs. The identity of the station through every command and every step (R141, R142, R152): outside INIT no command reaches the
straps, CONFIG-FAULT or a structural setting, but a reset, which enters INIT. -/

namespace Sys2Proof
namespace Machine

open Safety

/-! ### What keeps the identity (R141, R152) -/

theorem sameIdentity_refl (s : State) : sameIdentity s s := ⟨rfl, rfl, rfl⟩

theorem sameIdentity_trans {s t u : State} (h : sameIdentity s t) (k : sameIdentity t u) : sameIdentity s u := by
  obtain ⟨hstraps, hfault, hcfg⟩ := h
  obtain ⟨kstraps, kfault, kcfg⟩ := k
  refine ⟨kstraps.trans hstraps, kfault.trans hfault, ?_⟩
  rw [← hcfg, ← kcfg]

/-- What leaves the straps, CONFIG-FAULT and the working configuration keeps the identity. -/
theorem sameIdentity_of_control {s t : State} {c : Control} (h : t.ctl = c) (hstraps : c.straps = s.ctl.straps)
    (hfault : c.cfgFault = s.ctl.cfgFault) (hcfg : c.cfg = s.ctl.cfg) : sameIdentity s t := by
  subst h
  exact ⟨hstraps, hfault, by rw [hcfg]⟩

theorem sameIdentity_of_ctl {s t : State} (h : t.ctl = s.ctl) : sameIdentity s t :=
  sameIdentity_of_control h rfl rfl rfl

theorem sameIdentity_ite {s t : State} {c : Prop} [Decidable c] (h : c → sameIdentity s t) :
    sameIdentity s (if c then t else s) := by
  split
  · next hc => exact h hc
  · exact sameIdentity_refl s

/-! ### Moves between station states (R145 to R150) -/

theorem sameIdentity_transmitFailure (s : State) : sameIdentity s (transmitFailure s) :=
  sameIdentity_ite fun _ =>
    sameIdentity_of_control ((sendActuator_ctl (enterFallback s)).trans (enterFallback_ctl s)) rfl rfl rfl

theorem enterSilent_ctl (s : State) :
    (enterSilent s).ctl = { s.ctl with station := .silent, listenCount := 0, fallbackCount := 0 } := by
  simp only [enterSilent]; split <;> simp

theorem sameIdentity_addressClash (s : State) : sameIdentity s (addressClash s) :=
  sameIdentity_ite fun _ => sameIdentity_of_control (enterSilent_ctl (raise .clash s)) rfl rfl rfl

/-- Station control after RESUME's entry to LISTEN (R146). -/
theorem enterListen_ctl (s : State) :
    (enterListen s).ctl =
      { s.ctl with station := .listen, writeEnable := false, listenCount := 0, shareTimer := some 0 } := by
  simp [enterListen]

/-! ### The share link's commands (R23, R28, R29, R35) -/

theorem sameIdentity_errFrame (fl : Flight) (s : State) : sameIdentity s (errFrame fl s) := by
  rw [errFrame_def]
  split
  · exact sameIdentity_transmitFailure (s.setLink (s.link.erred fl))
  · exact sameIdentity_of_ctl rfl

theorem sameIdentity_endFlight (fl : Flight) (line : List Bool) (s : State) : sameIdentity s (endFlight fl line s) := by
  unfold endFlight
  cases fl.judge line with
  | lost => exact sameIdentity_of_ctl rfl
  | sent => exact sameIdentity_errFrame fl s
  | erred => exact sameIdentity_errFrame fl s

theorem sameIdentity_dropFrame (line : List Bool) (n : Nat) (s : State) : sameIdentity s (dropFrame line n s) := by
  unfold dropFrame
  cases s.link.flight with
  | none => exact sameIdentity_of_ctl rfl
  | some fl => exact sameIdentity_endFlight fl line s

theorem sameIdentity_takeFrame (f : Frame) (captureFirst : Bool) (s : State) :
    sameIdentity s (takeFrame f captureFirst s) := by
  unfold takeFrame
  split
  · exact sameIdentity_addressClash s
  · exact sameIdentity_of_ctl (arrive_ctl f captureFirst s)

theorem sameIdentity_validFrame (line : List Bool) (f : Frame) (captureFirst : Bool) (s : State) :
    sameIdentity s (validFrame line f captureFirst s) := by
  have taken (t : State) (h : sameIdentity s t) : sameIdentity s (takeFrame f captureFirst (endReception 0 t)) :=
    sameIdentity_trans h (sameIdentity_takeFrame f captureFirst (endReception 0 t))
  unfold validFrame
  cases s.link.flight with
  | none => exact taken s (sameIdentity_refl s)
  | some fl =>
    cases hj : fl.judge line with
    | sent => simp only [hj]; exact sameIdentity_of_ctl rfl
    | lost => simp only [hj]; exact taken _ (sameIdentity_of_ctl rfl)
    | erred => simp only [hj]; exact taken _ (sameIdentity_errFrame fl s)

/-! ### A share-timer expiry (R144, R154) -/

/-- An expiry reaches the tunables and no other setting: the staged set is theirs alone. -/
theorem sameIdentity_expiryRun (order : List ExpiryPart) (s : State) : sameIdentity s (expiryRun order s).state := by
  obtain ⟨st, listen, fallback, -, hctl⟩ := expiryRun_ctl order s
  unfold sameIdentity
  rw [hctl, applyStaged_ctl]
  split <;> exact ⟨rfl, rfl, rfl⟩

theorem sameIdentity_namedExpiry (e : ExpiryEvent) (order : List ExpiryPart) (s : State) :
    sameIdentity s (namedExpiry e order s) :=
  sameIdentity_ite fun _ => sameIdentity_expiryRun order s

/-! ### The service port -/

theorem sameIdentity_effect (c : Service) (fields : List Byte) (s : State) : sameIdentity s (c.effect fields s) := by
  cases c with
  | enterStandby => exact sameIdentity_ite fun _ => sameIdentity_of_control (enterStandbyState_ctl s) rfl rfl rfl
  | resume => exact sameIdentity_of_control (enterListen_ctl s) rfl rfl rfl
  | stage =>
    show sameIdentity s (stageEffect fields s)
    unfold stageEffect
    split
    · exact sameIdentity_refl s
    · exact sameIdentity_of_control (raiseIf_ctl _ _ _) rfl rfl rfl
  | clearTrip => exact sameIdentity_of_ctl (clearTripEffect_ctl s)
  | forceCapture => exact sameIdentity_of_ctl (offerTrigger_ctl _ s)
  | _ => exact sameIdentity_of_control rfl rfl rfl rfl

theorem sameIdentity_answerCommand (code : Byte) (fields : List Byte) (s : State) :
    sameIdentity s (answerCommand code fields s) := by
  unfold answerCommand
  split
  · split
    · exact sameIdentity_refl s
    · next c _ => exact sameIdentity_effect c fields s
  · exact sameIdentity_of_ctl rfl

/-! ### Every command and every step -/

/-- A reset has taken the station into INIT, or the identity stands. -/
def IdentityFollows (s t : State) : Prop := t.ctl.station = .init ∨ sameIdentity s t

theorem resetStation_station (pins : Straps) (cut : StoreCut) (s : State) :
    (resetStation pins cut s).ctl.station = .init := by
  rw [(resetStation_blocks pins cut s).1]; rfl

/-- The end of a select period resets the station where an accepted RESTART waits, and only there (R168). -/
theorem identityFollows_endSelect (s : State) : IdentityFollows s (endSelect s) := by
  by_cases hr : noRestart s
  · rw [endSelect_eq s hr]; exact .inr (sameIdentity_of_ctl rfl)
  · have waits : s.port.phase = .replying .restart := not_not.1 hr
    rw [endSelect, if_pos waits]
    exact .inl (resetStation_station s.ctl.pins .before s)

/-- A command right after a reset finds INIT and is refused as BUSY (R162). -/
theorem identityFollows_serve (code : Byte) (fields : List Byte) (s : State) :
    IdentityFollows s (serve code fields s) := by
  rcases identityFollows_endSelect s with hinit | same
  · have busy : judge code fields (endSelect s) = .busy := if_pos hinit
    rw [serve, answerCommand_refused code fields _ _ busy (by decide)]
    exact .inl hinit
  · exact .inr (sameIdentity_trans same (sameIdentity_answerCommand code fields _))

/-- An event where its condition holds, and no event elsewhere (log entry 9). -/
theorem identityFollows_ite {p : Prop} [Decidable p] {s t : State} (h : p → sameIdentity s t) :
    Machine.Answers (IdentityFollows s) (if p then .next t else .next s) :=
  answers_ite (.inr (sameIdentity_refl s)) fun hp => .inr (h hp)

theorem identityFollows_sampleArrival (bytes : List Byte) (order : List SamplePart) (s : State) :
    Machine.Answers (IdentityFollows s) (execSampleArrival bytes order s) := by
  unfold execSampleArrival
  split
  · cases parseSample s.ctl.straps.role bytes with
    | none => exact answers_next (.inr (sameIdentity_refl s))
    | some x => exact answers_next (.inr (sameIdentity_of_ctl (acceptSample_ctl x order s)))
  · exact answers_next (.inr (sameIdentity_refl s))

theorem identityFollows_transitTimeout (b : Breaker) (s : State) :
    Machine.Answers (IdentityFollows s) (execTransitTimeout b s) := by
  cases b with
  | set => exact identityFollows_ite fun _ => sameIdentity_of_ctl rfl
  | group g => exact identityFollows_ite fun _ => sameIdentity_of_ctl rfl
  | tie => exact identityFollows_ite fun _ => sameIdentity_of_ctl (by simp)

theorem identityFollows_frameStart (s : State) : Machine.Answers (IdentityFollows s) (execFrameStart s) := by
  unfold execFrameStart
  split
  · cases s.offer with
    | none => exact answers_next (.inr (sameIdentity_refl s))
    | some x => exact answers_next (.inr (sameIdentity_of_ctl rfl))
  · exact answers_next (.inr (sameIdentity_refl s))

theorem identityFollows_arbitrationLoss (s : State) : Machine.Answers (IdentityFollows s) (execArbitrationLoss s) := by
  unfold execArbitrationLoss
  cases s.link.flight with
  | none => exact answers_next (.inr (sameIdentity_refl s))
  | some fl => exact answers_next (.inr (sameIdentity_of_ctl rfl))

theorem identityFollows_transmitError (s : State) : Machine.Answers (IdentityFollows s) (execTransmitError s) := by
  intro t e
  rcases execTransmitError_cases s t e with ⟨-, rfl⟩ | ⟨fl, -, ⟨-, rfl⟩ | ⟨-, rfl, -⟩⟩
  · exact .inr (sameIdentity_refl _)
  · exact .inr (sameIdentity_errFrame fl s)
  · exact .inr (sameIdentity_errFrame fl s)

theorem identityFollows_frameReceived (line : List Bool) (captureFirst : Bool) (s : State) :
    Machine.Answers (IdentityFollows s) (execFrameReceived line captureFirst s) := by
  unfold execFrameReceived
  split
  · cases receive line with
    | incomplete => exact answers_next (.inr (sameIdentity_refl s))
    | dropped n => exact answers_next (.inr (sameIdentity_dropFrame line n s))
    | valid f => exact answers_next (.inr (sameIdentity_validFrame line f captureFirst s))
  · exact answers_next (.inr (sameIdentity_of_ctl rfl))

theorem identityFollows_statusReadClear (s : State) :
    Machine.Answers (IdentityFollows s) (execStatusReadClear s) := by
  unfold execStatusReadClear
  split
  · cases s.ctl.cfg.ackMode <;> exact answers_next (.inr (sameIdentity_of_ctl rfl))
  · exact answers_next (.inr (sameIdentity_refl s))

/-- A store operation's completion leaves CONFIG-FAULT (R159). -/
theorem storeDone_cfgFault (c : Control) : c.storeDone.cfgFault = c.cfgFault := by
  unfold Control.storeDone; split <;> rfl

theorem identityFollows_storeCompletion (s : State) :
    Machine.Answers (IdentityFollows s) (execStoreCompletion s) := by
  unfold execStoreCompletion
  split
  · exact answers_next (.inr (sameIdentity_refl s))
  · exact answers_next (.inr (sameIdentity_of_control rfl (storeDone_straps s.ctl) (storeDone_cfgFault s.ctl)
      (storeDone_cfg s.ctl)))

/-- Every command outside INIT leaves the identity or enters INIT. -/
theorem exec_identityFollows (c : Instr) (s : State) (hs : s.ctl.station ≠ .init) :
    Machine.Answers (IdentityFollows s) (exec c s) := by
  have named (e : ExpiryEvent) (order : List ExpiryPart) : IdentityFollows s (namedExpiry e order s) :=
    .inr (sameIdentity_namedExpiry e order s)
  cases c with
  | reset pins cut => exact answers_next (.inl (resetStation_station pins cut s))
  | restartReset pins =>
    exact answers_ite (.inr (sameIdentity_refl s)) fun _ => .inl (resetStation_station pins .before s)
  | endOfInit => exact identityFollows_ite fun hinit => absurd hinit hs
  | sampleArrival bytes order => exact identityFollows_sampleArrival bytes order s
  | measureTimerHeld => exact identityFollows_ite fun _ => sameIdentity_of_ctl rfl
  | measureTimerFault => exact identityFollows_ite fun _ => sameIdentity_of_ctl (by simp)
  | transitTimeout b => exact identityFollows_transitTimeout b s
  | shareTimerExpiry order => exact answers_next (.inr (sameIdentity_ite fun _ => sameIdentity_expiryRun order s))
  | listenEnd order => exact answers_next (named _ order)
  | fallbackExit order => exact answers_next (named _ order)
  | startAttemptTimeout order => exact answers_next (named _ order)
  | stopNeedExpiry order => exact answers_next (named _ order)
  | settleTimerExpiry order => exact answers_next (named _ order)
  | ladderStep order => exact answers_next (named _ order)
  | restorationStep order => exact answers_next (named _ order)
  | confirmTimeout g => exact identityFollows_ite fun _ => sameIdentity_of_ctl rfl
  | tripTimeout => exact identityFollows_ite fun _ => sameIdentity_of_ctl rfl
  | stopPulseEnd => exact identityFollows_ite fun _ => sameIdentity_of_ctl rfl
  | timeTagWrap => exact identityFollows_ite fun _ => sameIdentity_of_ctl rfl
  | attentionPulseEnd => exact identityFollows_ite fun _ => sameIdentity_of_ctl rfl
  | lineIdle => exact identityFollows_ite fun _ => sameIdentity_of_ctl rfl
  | lineBusy => exact answers_next (.inr (sameIdentity_of_ctl rfl))
  | frameStart => exact identityFollows_frameStart s
  | arbitrationLoss => exact identityFollows_arbitrationLoss s
  | transmitError => exact identityFollows_transmitError s
  | frameReceived line captureFirst => exact identityFollows_frameReceived line captureFirst s
  | readoutComplete => exact identityFollows_ite fun _ => sameIdentity_of_ctl (by simp)
  | statusReadClear => exact identityFollows_statusReadClear s
  | storeCompletion => exact identityFollows_storeCompletion s
  | selectDeassert => exact answers_next (identityFollows_endSelect s)
  | _ => exact answers_next (identityFollows_serve _ _ s)

/-- A microsecond counts the share timer and reaches nothing else of station control. -/
theorem sameIdentity_idle (s : State) : sameIdentity s (idle s) := by
  rw [idle_eq]
  split <;> exact sameIdentity_of_control rfl rfl rfl rfl

/-- Settles O13: only an expiry reaches the settings outside INIT, and of them the tunables alone; a reset enters INIT. -/
theorem stepKeepsIdentity : Obligations.StepKeepsIdentity := by
  unfold Obligations.StepKeepsIdentity
  intro s t hs e
  unfold step at e
  cases hq : s.pending with
  | nil =>
    rw [hq] at e
    exact answers_next (P := IdentityFollows s) (.inr (sameIdentity_idle s)) t e
  | cons c rest => rw [hq] at e; exact exec_identityFollows c { s with pending := rest } hs t e

end Machine
end Sys2Proof


/-! Proofs. The end of INIT, a record from its writing to the INIT that takes it, and the named expiries (R80, R121, R142, R143,
R144, R155, R159, R177). -/

namespace Sys2Proof
namespace Machine

open Safety

/-! ### The end of INIT (R80, R121, R142) -/

theorem endInit_ctl (s : State) : (endInit s).ctl = s.ctl.endInit := by simp [endInit]

theorem endInit_shed (s : State) : (endInit s).shed = initialShed s.ctl.straps.role s.ctl.takenConfig := by
  simp [endInit, Control.endInit]

/-- The island view takes its initial sums at the end of INIT and keeps its table and the tie state (R55). -/
theorem endInit_view (s : State) : ∃ sums, (endInit s).view = { s.view with sums := sums } :=
  ⟨_, by rw [endInit, sendActuator_view]; rfl⟩

/-- Taking the port's modes touches the attention line alone (R172, R174). -/
theorem endInit_port (s : State) : ∃ attention, (endInit s).port = { s.port with attention := attention } :=
  ⟨_, by rw [endInit, sendActuator_port]; rfl⟩

/-- The groups of R121: each present group as its output of R98 asks at cut rank 15. -/
theorem endInit_group (s : State) (g : GroupNo) :
    ((endInit s).shed.groups[g].state, (endInit s).shed.groups[g].output) =
      if (endInit s).groupPresent g then
        (if 1 ≤ (endInit s).ctl.cfg.rank[g] then (.shed, true) else (.opened, false))
      else (.absent, false) := by
  have group : (endInit s).shed.groups[g] = initialGroup s.ctl.straps.role s.ctl.takenConfig g := by
    simp [endInit_shed, initialShed]
  have present : (endInit s).groupPresent g = true ↔ s.ctl.straps.role = .feeder ∧ s.ctl.takenConfig.present[g] = true := by
    simp [State.groupPresent, State.isFeeder, endInit_ctl, Control.endInit]
  have rank : (endInit s).ctl.cfg.rank[g] = s.ctl.takenConfig.rank[g] := by rw [endInit_ctl]; rfl
  rw [group, rank, initialGroup]
  by_cases hp : s.ctl.straps.role = .feeder ∧ s.ctl.takenConfig.present[g] = true
  · rw [if_pos hp, if_pos (present.2 hp)]
    split <;> rfl
  · rw [if_neg hp, if_neg (mt present.1 hp)]
    rfl

/-- In INIT no condition of R64 holds, so BIAS-VALID stands deasserted and both biases are 0. -/
theorem biases_zero_of_init (s : State) (hs : s.ctl.station = .init) (h : biasOk s) :
    s.ls.speedBias = 0 ∧ s.ls.voltBias = 0 ∧ s.ls.biasValid = false := by
  obtain ⟨follows, zero⟩ := h
  have low : s.ls.biasValid = false := follows.trans (biasLevel_of_not_run (by rw [hs]; decide))
  exact ⟨(zero low).1, (zero low).2, low⟩

theorem exec_endOfInit (s : State) (hs : s.ctl.station = .init) : exec .endOfInit s = .next (endInit s) := if_pos hs

/-- Settles O20, block by block; the actuator record by the role. -/
theorem endOfInitEntersStandby : Obligations.EndOfInitEntersStandby := by
  unfold Obligations.EndOfInitEntersStandby
  refine fun s => ⟨fun hs => ⟨_, exec_endOfInit s hs, ?_⟩, fun hs => if_neg hs⟩
  obtain ⟨sums, hview⟩ := endInit_view s
  obtain ⟨attention, hport⟩ := endInit_port s
  have groups := endInit_group s
  have hls := endInit_ls s
  rw [endInit_ctl] at groups ⊢
  rw [hview, hport]
  refine ⟨rfl, rfl, rfl, rfl, rfl, rfl, rfl, rfl, rfl, rfl, by rw [endInit_shed]; rfl, groups, rfl, rfl, rfl, fun hf => ?_,
    fun hg => hls.trans (sendActuator_ls s hg), fun hg hb => ?_, by simp [Kept]⟩
  · rw [hls, sendActuator, if_neg (by simp [isGenset_of_feeder s ((isFeeder_iff s).1 hf)])]
  · obtain ⟨hspeed, hvolt, hvalid⟩ := biases_zero_of_init s hs hb
    rw [hls, sendActuator_ls s hg, hspeed, hvolt, hvalid]

/-! ### A record from its writing to the INIT that takes it (R142, R155, R159, R177) -/

/-- The ranges are of the fields before the check bytes (R177). -/
theorem recordInRange_take (bytes : List Byte) : recordInRange (bytes.take recordLength) = recordInRange bytes := by
  have ranks : (List.range 8).all (fun g => within (fieldAt (bytes.take recordLength) (39 + g) 1) 0 15) =
      (List.range 8).all (fun g => within (fieldAt bytes (39 + g) 1) 0 15) := by
    rw [Bool.eq_iff_iff, List.all_eq_true, List.all_eq_true]
    refine forall₂_congr fun g hg => ?_
    have below := List.mem_range.1 hg
    have kept : 39 + g + 1 ≤ recordLength := by rw [recordLength]; omega
    rw [fieldAt_take bytes recordLength _ 1 kept]
  simp (disch := decide) only [recordInRange, ranks, fieldAt_take]

theorem gensetTieReporter_take (bytes : List Byte) :
    gensetTieReporter (bytes.take recordLength) = gensetTieReporter bytes := by
  simp (disch := decide) only [gensetTieReporter, fieldAt_take]

theorem recordRole_take (bytes : List Byte) : recordRole (bytes.take recordLength) = recordRole bytes := by
  simp (disch := decide) only [recordRole, fieldAt_take]

theorem recordSect_take (bytes : List Byte) : recordSect (bytes.take recordLength) = recordSect bytes := by
  simp (disch := decide) only [recordSect, fieldAt_take]

/-- A record as the completion of a write stores it (R155, R159). -/
def withCheck (rec : List Byte) : List Byte := rec ++ crcBytes rec

theorem withCheck_take (rec : List Byte) (h : rec.length = recordLength) : (withCheck rec).take recordLength = rec := by
  rw [withCheck, ← h, List.take_left]

theorem recordCrcOk_withCheck (rec : List Byte) (h : rec.length = recordLength) : recordCrcOk (withCheck rec) = true := by
  have length : (withCheck rec).length = 80 := by simp [withCheck, h, crcBytes, recordLength]
  have check : (withCheck rec).drop recordLength = crcBytes rec := by rw [withCheck, ← h, List.drop_left]
  simp [recordCrcOk, length, check, withCheck_take rec h]

/-- A record in range stored with its check fails the test of INIT by its straps alone (R142). -/
theorem recordFaulty_withCheck (pins : Straps) (rec : List Byte) (hlength : rec.length = recordLength)
    (hrange : recordInRange rec = true) (htie : gensetTieReporter rec = false) :
    recordFaulty pins (withCheck rec) = !decide (recordRole rec = pins.role ∧ recordSect rec = pins.sect) := by
  have taken := withCheck_take rec hlength
  have range : recordInRange (withCheck rec) = true := by rw [← recordInRange_take, taken, hrange]
  have tie : gensetTieReporter (withCheck rec) = false := by rw [← gensetTieReporter_take, taken, htie]
  have role : recordRole (withCheck rec) = recordRole rec := by rw [← recordRole_take, taken]
  have sect : recordSect (withCheck rec) = recordSect rec := by rw [← recordSect_take, taken]
  simp [recordFaulty, recordCrcOk_withCheck rec hlength, range, tie, role, sect]

/-- The configuration that INIT takes from a record in range stored with its check: the record's, or the fault set where it was
written for other straps (R142, R143). -/
theorem takenConfig_withCheck (c : Control) (rec : List Byte) (hlength : rec.length = recordLength)
    (hrange : recordInRange rec = true) (htie : gensetTieReporter rec = false) (hstored : c.stored = withCheck rec) :
    if recordRole rec = c.straps.role ∧ recordSect rec = c.straps.sect then
      c.recordFails = false ∧ c.takenConfig = parseSettings rec
    else c.recordFails = true ∧ c.takenConfig = Settings.faultSet c.straps.role c.straps.sect := by
  have fails : c.recordFails = !decide (recordRole rec = c.straps.role ∧ recordSect rec = c.straps.sect) := by
    rw [Control.recordFails, hstored, recordFaulty_withCheck c.straps rec hlength hrange htie]
  split
  · next same =>
    have passes : c.recordFails = false := by rw [fails, decide_eq_true same]; rfl
    exact ⟨passes, by rw [Control.takenConfig, passes, hstored, withCheck_take rec hlength]; rfl⟩
  · next differ =>
    have faulty : c.recordFails = true := by rw [fails, decide_eq_false differ]; rfl
    exact ⟨faulty, by rw [Control.takenConfig, faulty]; rfl⟩

/-- Station control at the completion of a write: the record with its check, the latch clear (R159). -/
theorem storeDone_writing (c : Control) (rec : List Byte) (h : c.store = .writing rec) :
    c.storeDone = { c with stored := withCheck rec, store := .idle, writeEnable := false } := by
  simp only [Control.storeDone, h]; rfl

/-- Station control at the completion of a lock: the locked mark, the latch clear (R159). -/
theorem storeDone_locking (c : Control) (h : c.store = .locking) :
    c.storeDone = { c with locked := true, store := .idle, writeEnable := false } := by
  simp only [Control.storeDone, h]

/-- A completion raises STORE-DONE and reaches station control and the port alone (R159). -/
theorem storeDone_frame (c : Control) (s : State) :
    RaisedOnly [.storeDone] s (raise .storeDone (s.setCtl c)) ∧ Kept [.ctl, .port] s (raise .storeDone (s.setCtl c)) :=
  ⟨⟨rfl, rfl, rfl, rfl⟩, by simp [Kept]⟩

/-- With no store operation running, a reset keeps the stored record whatever its cut (R159). -/
theorem afterCut_idle (c : Control) (cut : StoreCut) (h : c.store = .idle) : c.afterCut cut = (c.stored, c.locked) := by
  cases cut <;> simp [Control.afterCut, h]

/-- Settles O18: the completion stores the record with its check, the reset keeps it, and INIT's test turns on the straps alone. -/
theorem storedRecordIsTakenAtInit : Obligations.StoredRecordIsTakenAtInit := by
  unfold Obligations.StoredRecordIsTakenAtInit
  intro rec pins cut s hlength hrange htie hs
  obtain ⟨raised, kept⟩ := storeDone_frame s.ctl.storeDone s
  have done := storeDone_writing s.ctl rec hs
  have hu : (resetStation pins cut (raise .storeDone (s.setCtl s.ctl.storeDone))).ctl =
      Control.reset pins (withCheck rec) s.ctl.locked := by
    rw [(resetStation_blocks pins cut _).1, raise_ctl, State.setCtl_ctl, done, afterCut_idle _ cut rfl]
  have busy : s.ctl.store ≠ .idle := by rw [hs]; exact fun h => nomatch h
  refine ⟨_, _, _, exec_storeCompletion s busy, rfl, exec_endOfInit _ (by rw [hu]; rfl), ?_⟩
  rw [endInit_ctl, hu]
  have taken := takenConfig_withCheck (Control.reset pins (withCheck rec) s.ctl.locked) rec hlength hrange htie rfl
  rw [raise_ctl, State.setCtl_ctl]
  exact ⟨by rw [done]; rfl, by rw [done], by rw [done], by rw [done], by rw [done], raised, kept, rfl, rfl, rfl, taken⟩

/-! ### Named expiries (log entry 5) -/

/-- Settles O29: a named expiry runs the whole expiry to see whether its count ends there. -/
theorem namedExpiriesAreExpiries : Obligations.NamedExpiriesAreExpiries := by
  unfold Obligations.NamedExpiriesAreExpiries
  intro order s c e hc
  have named : exec c s = .next (namedExpiry e order s) := by
    simp only [List.mem_cons, Prod.mk.injEq, List.not_mem_nil, or_false] at hc
    rcases hc with ⟨rfl, rfl⟩ | ⟨rfl, rfl⟩ | ⟨rfl, rfl⟩ | ⟨rfl, rfl⟩ | ⟨rfl, rfl⟩ | ⟨rfl, rfl⟩ | ⟨rfl, rfl⟩
    all_goals rfl
  rw [named]
  split
  · next ends => rw [exec_shareTimerExpiry, if_pos ends.1, namedExpiry_of_event order s e ends.1 ends.2]
  · next runsOn => rw [namedExpiry, if_neg runsOn]

end Machine
end Sys2Proof


/-! Proofs. The commands of the configuration store, of the staged set and of station life: the first refusal that holds, else the
command's effect; and the reset of an accepted RESTART (R146, R153, R154, R156 to R163, R168). -/

namespace Sys2Proof
namespace Machine

open Safety

/-! ### The answer to a complete command (R162) -/

/-- The refusal of a complete command of its length: BUSY in INIT, else the command's own (R162). -/
def Service.verdict (c : Service) (fields : List Byte) (s : State) : Option Result :=
  if s.ctl.station = .init then some .busy else c.refusal fields s

/-- The station after a command in a select period of its own, by the refusal it met. -/
def Service.answerTo (c : Service) (fields : List Byte) (s : State) : Option Result → State
  | none => accept c fields (afterSelect s)
  | some r => refuse r (afterSelect s)

theorem firstRefusal_mem (l : List (Bool × Result)) (r : Result) (h : firstRefusal l = some r) : r ∈ l.map Prod.snd := by
  induction l with
  | nil => exact nomatch h
  | cons x rest ih =>
    rw [firstRefusal] at h
    split at h
    · obtain rfl := Option.some.inj h; exact List.mem_cons_self
    · exact List.mem_cons_of_mem _ (ih h)

/-- A refusal is not an acceptance. -/
theorem refusal_ne_accepted (c : Service) (fields : List Byte) (s : State) : c.refusal fields s ≠ some .accepted := by
  intro h
  cases c with
  | writeEnable => simpa using firstRefusal_mem _ _ h
  | writeConfig => simpa using firstRefusal_mem _ _ h
  | lockConfig => simpa using firstRefusal_mem _ _ h
  | stage => simpa using firstRefusal_mem _ _ h
  | hold => simpa using firstRefusal_mem _ _ h
  | apply => simpa using firstRefusal_mem _ _ h
  | resume => simpa using firstRefusal_mem _ _ h
  | restart => simpa using firstRefusal_mem _ _ h
  | _ => exact nomatch h

/-- A complete command of its length, with no RESTART waiting, is refused or accepted as the station stands. -/
theorem serve_eq (code : Byte) (c : Service) (fields : List Byte) (s : State) (hr : noRestart s)
    (hc : Service.ofCode code = some c) (hlength : fields.length = c.fieldLength) :
    serve code fields s = c.answerTo fields s (c.verdict fields s) := by
  have same : c.refusal fields (afterSelect s) = c.refusal fields s := by cases c <;> rfl
  have judged : judge code fields (afterSelect s) = (c.verdict fields s).getD .accepted := by
    unfold judge Service.verdict
    simp only [hc, hlength, if_true, same]
    exact (apply_ite (Option.getD · Result.accepted) (s.ctl.station = .init) (some .busy) (c.refusal fields s)).symm
  rw [serve, endSelect_eq_afterSelect s hr]
  cases hv : c.verdict fields s with
  | none => exact answerCommand_accepted code fields _ c (by rw [judged, hv]; rfl) hc
  | some r =>
    refine answerCommand_refused code fields _ r (by rw [judged, hv]; rfl) fun accepted => ?_
    rw [Service.verdict, accepted] at hv
    split at hv
    · exact nomatch hv
    · exact refusal_ne_accepted c fields s hv

theorem verdict_init (c : Service) (fields : List Byte) (s : State) (h : s.ctl.station = .init) :
    c.verdict fields s = some .busy := if_pos h

theorem verdict_past (c : Service) (fields : List Byte) (s : State) (h : s.ctl.station ≠ .init) :
    c.verdict fields s = c.refusal fields s := if_neg h

/-- A refused command changes the reply in progress alone (R162). -/
theorem refuse_spec (r : Result) (s : State) :
    Safety.Answers r [] .plain (refuse r (afterSelect s)) ∧ sameFlags s (refuse r (afterSelect s)) ∧
      Kept [.port] s (refuse r (afterSelect s)) :=
  ⟨⟨rfl, rfl⟩, ⟨rfl, rfl, rfl, rfl, rfl⟩, by simp [Kept, afterSelect]⟩

theorem sameFlags_of_port {s t : State} (h : t.port = (afterSelect s).port) (r : Result) (content : List Byte)
    (kind : ReplyKind) : sameFlags s (answerWith r content kind t) := by
  have port : (answerWith r content kind t).port = (answerWith r content kind (afterSelect s)).port := by
    rw [answerWith, State.setPort_port, h]; rfl
  unfold sameFlags
  rw [port]
  exact ⟨rfl, rfl, rfl, rfl, rfl⟩

/-- LISTEN, RUN, FALLBACK and SILENT are neither INIT nor STANDBY. -/
theorem of_active {s : State} (h : s.ctl.station.active = true) : s.ctl.station ≠ .init ∧ s.ctl.station ≠ .standby := by
  constructor <;> intro hs <;> rw [hs] at h <;> exact nomatch h

/-! ### The refusals in the order of their rules (R146, R156, R157, R158, R160) -/

theorem refusal_writeEnable (fields : List Byte) (s : State) :
    Service.writeEnable.refusal fields s =
      if s.ctl.store ≠ .idle then some .busy else if s.ctl.station ≠ .standby then some .wrongState else none := by
  simp [Service.refusal, firstRefusal, State.storeBusy, State.inStandby]

theorem refusal_writeConfig (rec : List Byte) (s : State) :
    Service.writeConfig.refusal rec s =
      if s.ctl.station ≠ .standby then some .wrongState
      else if s.ctl.writeEnable = false then some .notEnabled
      else if s.ctl.locked = true then some .locked
      else if recordInRange rec = false ∨ gensetTieReporter rec = true then some .badValue
      else if s.ctl.store ≠ .idle then some .busy
      else none := by
  simp [Service.refusal, firstRefusal, State.storeBusy, State.inStandby]

theorem refusal_lockConfig (fields : List Byte) (s : State) :
    Service.lockConfig.refusal fields s =
      if s.ctl.station ≠ .standby then some .wrongState
      else if s.ctl.writeEnable = false then some .notEnabled
      else if s.ctl.locked = true then some .locked
      else if s.ctl.store ≠ .idle then some .busy
      else if recordCrcOk s.ctl.stored = false ∨ recordInRange s.ctl.stored = false then some .badValue
      else none := by
  simp [Service.refusal, firstRefusal, State.storeBusy, State.inStandby]

/-- RESUME's refusals, INIT's before its own (R146). -/
theorem verdict_resume (fields : List Byte) (s : State) :
    Service.resume.verdict fields s =
      if s.ctl.station = .init then some .busy
      else if s.ctl.station ≠ .standby then some .wrongState
      else if s.ctl.store ≠ .idle then some .busy
      else if s.ctl.cfgFault = true then some .wrongState
      else none := by
  simp [Service.verdict, Service.refusal, firstRefusal, State.storeBusy, State.inStandby]

/-- RESTART's refusals, INIT's with its own (R160). -/
theorem verdict_restart (fields : List Byte) (s : State) :
    Service.restart.verdict fields s =
      if s.ctl.station = .init ∨ s.ctl.store ≠ .idle then some .busy else none := by
  by_cases hi : s.ctl.station = .init <;>
    simp [Service.verdict, Service.refusal, firstRefusal, State.storeBusy, hi]

/-! ### WRITE-ENABLE (R156) -/

/-- A command whose reply is the result byte alone is accepted with that reply, or leaves station control. -/
theorem answerCommand_plain (code : Byte) (c : Service) (fields : List Byte) (s : State)
    (hc : Service.ofCode code = some c) (hcontent : ∀ t, c.content t = []) :
    (answerCommand code fields s).port.reply = [Result.accepted.code] ∨ (answerCommand code fields s).ctl = s.ctl := by
  by_cases accepted : judge code fields s = .accepted
  · rw [answerCommand_accepted code fields s c accepted hc, accept, hcontent]
    exact .inl rfl
  · rw [answerCommand_refused code fields s _ rfl accepted]
    exact .inr rfl

/-- A refused WRITE-CONFIG or LOCK-CONFIG, of whatever length, leaves station control. -/
theorem serve_refused_ctl (code : Byte) (c : Service) (fields : List Byte) (s : State) (hr : noRestart s)
    (hc : Service.ofCode code = some c) (hcontent : ∀ t, c.content t = [])
    (h : (serve code fields s).port.reply ≠ [Result.accepted.code]) : (serve code fields s).ctl = s.ctl := by
  rw [serve, endSelect_eq_afterSelect s hr] at h ⊢
  exact (answerCommand_plain code c fields (afterSelect s) hc hcontent).resolve_left h

/-- The latch clears at the completion of a store operation (R156, R159). -/
theorem storeDone_writeEnable (c : Control) (h : c.store ≠ .idle) : c.storeDone.writeEnable = false := by
  cases hs : c.store with
  | idle => exact absurd hs h
  | writing rec => rw [storeDone_writing c rec hs]
  | locking => rw [storeDone_locking c hs]

theorem exec_restartReset (pins : Straps) (s : State) (h : s.port.phase = .replying .restart) :
    exec (.restartReset pins) s = .next (resetStation pins .before s) := if_pos h

theorem resetStation_writeEnable (pins : Straps) (cut : StoreCut) (s : State) :
    (resetStation pins cut s).ctl.writeEnable = false := by
  rw [(resetStation_blocks pins cut s).1]; rfl

theorem exec_writeEnable (s : State) (hr : noRestart s) :
    exec (.writeEnable []) s = .next (Service.writeEnable.answerTo [] s (Service.writeEnable.verdict [] s)) :=
  congrArg Host.Outcome.next (serve_eq 0x07 .writeEnable [] s hr rfl rfl)

theorem exec_resume (s : State) (hr : noRestart s) :
    exec (.resume []) s = .next (Service.resume.answerTo [] s (Service.resume.verdict [] s)) :=
  congrArg Host.Outcome.next (serve_eq 0x0F .resume [] s hr rfl rfl)

/-- WRITE-ENABLE's refusals, INIT's before its own (R156). -/
theorem verdict_writeEnable (s : State) :
    ((s.ctl.station = .init ∨ s.ctl.store ≠ .idle) → Service.writeEnable.verdict [] s = some .busy) ∧
    (s.ctl.station.active = true → s.ctl.store = .idle → Service.writeEnable.verdict [] s = some .wrongState) ∧
    (s.ctl.station = .standby → s.ctl.store = .idle → Service.writeEnable.verdict [] s = none) := by
  refine ⟨fun h => ?_, fun ha hidle => ?_, fun hs hidle => ?_⟩
  · by_cases hi : s.ctl.station = .init
    · exact verdict_init _ _ s hi
    · rw [verdict_past _ _ s hi, refusal_writeEnable, if_pos (h.resolve_left hi)]
  · rw [verdict_past _ _ s (of_active ha).1, refusal_writeEnable, if_neg (not_not.2 hidle), if_pos (of_active ha).2]
  · rw [verdict_past _ _ s (by rw [hs]; decide), refusal_writeEnable, if_neg (not_not.2 hidle), if_neg (not_not.2 hs)]

/-- Settles O52: the command by its refusals; the clearings where the store, LISTEN and a reset set the latch. -/
theorem writeEnableLatch : Obligations.WriteEnableLatch := by
  unfold Obligations.WriteEnableLatch
  refine ⟨fun s hr => ?_, fun pins s hp => ⟨_, exec_restartReset pins s hp, resetStation_writeEnable pins .before s⟩⟩
  obtain ⟨busy, wrong, free⟩ := verdict_writeEnable s
  refine ⟨fun h => ⟨_, exec_writeEnable s hr, ?_⟩, fun ha hidle => ⟨_, exec_writeEnable s hr, ?_⟩,
    fun hs hidle => ⟨_, exec_writeEnable s hr, ?_⟩,
    fun h => ⟨_, exec_storeCompletion s h, storeDone_writeEnable s.ctl h⟩,
    fun hs hidle hf => ⟨_, exec_resume s hr, ?_⟩,
    fun pins cut => ⟨_, rfl, resetStation_writeEnable pins cut s⟩,
    fun fields t e h => ?_, fun fields t e h => ?_⟩
  · rw [busy h]; exact refuse_spec .busy s
  · rw [wrong ha hidle]; exact refuse_spec .wrongState s
  · rw [free hs hidle]
    have kept : Kept [.ctl, .port] s (Service.writeEnable.answerTo [] s none) := by
      simp [Kept, Service.answerTo, accept, Service.effect, afterSelect]
    exact ⟨⟨rfl, rfl⟩, ⟨rfl, rfl, rfl, rfl, rfl⟩, rfl, kept⟩
  · have verdict : Service.resume.verdict [] s = none := by simp [verdict_resume, hs, hidle, hf]
    have listen : (Service.resume.answerTo [] s none).ctl = _ := enterListen_ctl (afterSelect s)
    rw [verdict, listen]
    exact ⟨rfl, rfl⟩
  · cases e
    rw [serve_refused_ctl 0x08 .writeConfig fields s hr rfl (fun _ => rfl) h]
  · cases e
    rw [serve_refused_ctl 0x0A .lockConfig fields s hr rfl (fun _ => rfl) h]

/-! ### WRITE-CONFIG and LOCK-CONFIG (R157, R158, R159) -/

/-- Settles O53: the refusals in the order of the rules, the store operation where none holds, and the completion of a lock. -/
theorem storeCommandsInOrder : Obligations.StoreCommandsInOrder := by
  unfold Obligations.StoreCommandsInOrder
  have begun (x : StoreState) (s : State) :
      Kept [.ctl, .port] s (answerWith .accepted [] .plain ((afterSelect s).setCtl { s.ctl with store := x })) := by
    simp [Kept, afterSelect]
  have refused (r : Result) (s : State) : (refuse r (afterSelect s)).ctl.stored = s.ctl.stored ∧
      sameFlags s (refuse r (afterSelect s)) ∧ Safety.Answers r [] .plain (refuse r (afterSelect s)) ∧
      Kept [.port] s (refuse r (afterSelect s)) := by
    obtain ⟨answers, flags, kept⟩ := refuse_spec r s
    exact ⟨rfl, flags, answers, kept⟩
  refine ⟨fun rec s hr hi hlength => ?_, fun s hr hi => ?_⟩
  · refine ⟨_, congrArg Host.Outcome.next (serve_eq 0x08 .writeConfig rec s hr rfl hlength), ?_⟩
    rw [verdict_past _ _ s hi, refusal_writeConfig]
    split_ifs
    · exact refused .wrongState s
    · exact refused .notEnabled s
    · exact refused .locked s
    · exact refused .badValue s
    · exact refused .busy s
    · exact ⟨rfl, ⟨rfl, rfl, rfl, rfl, rfl⟩, ⟨rfl, rfl⟩, rfl, begun (.writing rec) s⟩
  · refine ⟨_, congrArg Host.Outcome.next (serve_eq 0x0A .lockConfig [] s hr rfl rfl), ?_⟩
    rw [verdict_past _ _ s hi, refusal_lockConfig]
    split_ifs
    · exact refused .wrongState s
    · exact refused .notEnabled s
    · exact refused .locked s
    · exact refused .busy s
    · exact refused .badValue s
    · exact ⟨rfl, ⟨rfl, rfl, rfl, rfl, rfl⟩, ⟨rfl, rfl⟩, rfl, begun .locking s, _,
        exec_storeCompletion _ (fun h => nomatch h), rfl, rfl, (storeDone_frame _ _).1⟩

/-! ### RESUME (R146) -/

/-- The station in LISTEN before a slot arms (R123, R146). -/
def beforeArming (s : State) : State :=
  let moved := zeroNeedTimers (s.setCtl
    { s.ctl with station := .listen, writeEnable := false, listenCount := 0, shareTimer := some 0 })
  let quiet := moved.setLink { moved.link.silenced with receiving := false }
  quiet.setCap { quiet.cap with tag := 0, tagMicros := 0, tagWraps := 0, overflow := false }

theorem enterListen_eq (s : State) : enterListen s = armSlot (beforeArming s) := rfl

/-- At entry to LISTEN the need timers and the restore timer become 0 (R86, R93, R116). -/
theorem enterListen_timers (s : State) :
    (enterListen s).demand = { s.demand with startNeed := 0, stopNeed := 0 } ∧
    (enterListen s).shed = { s.shed with restore := 0 } := by
  rw [enterListen_eq, armSlot_demand, armSlot_shed]
  exact ⟨rfl, rfl⟩

/-- At entry to LISTEN the time tag is 0 with its flag clear (R123). -/
theorem enterListen_tag (s : State) : (enterListen s).cap.tag = 0 ∧ (enterListen s).cap.overflow = false := by
  rw [enterListen_eq, (armSlot_cap (beforeArming s)).1]
  exact ⟨rfl, rfl⟩

/-- At entry to LISTEN a slot arms where capture_armed is on and one is FREE (R124). -/
theorem enterListen_slots (s : State) :
    (s.ctl.cfg.tun.captureArmed = false → (enterListen s).cap.slots = s.cap.slots) ∧
    (∀ i, s.ctl.cfg.tun.captureArmed = true → s.cap.activeSlot = none → s.cap.freeSlot = some i →
      (enterListen s).cap.slots[i] = .armed []) := by
  rw [enterListen_eq]
  refine ⟨fun off => ?_, fun i on alone free => ?_⟩
  · rw [armSlot_still (beforeArming s) (.inl off)]; rfl
  · rw [armSlot_arms (beforeArming s) i on rfl alone free]
    exact (setSlot_slots _ i i _).trans (if_pos rfl)

/-- Settles O56: the refusals in the order of the rule, else the entry to LISTEN, block by block. -/
theorem resumeEntersListen : Obligations.ResumeEntersListen := by
  unfold Obligations.ResumeEntersListen
  intro s hr
  have refused (r : Result) : sameFlags s (refuse r (afterSelect s)) ∧
      Safety.Answers r [] .plain (refuse r (afterSelect s)) ∧ Kept [.port] s (refuse r (afterSelect s)) := by
    obtain ⟨answers, flags, kept⟩ := refuse_spec r s
    exact ⟨flags, answers, kept⟩
  refine ⟨_, exec_resume s hr, ?_⟩
  rw [verdict_resume]
  split_ifs
  · exact refused .busy
  · exact refused .wrongState
  · exact refused .busy
  · exact refused .wrongState
  · obtain ⟨hdemand, hshed⟩ := enterListen_timers (afterSelect s)
    obtain ⟨htag, hoverflow⟩ := enterListen_tag (afterSelect s)
    obtain ⟨still, arms⟩ := enterListen_slots (afterSelect s)
    refine ⟨sameFlags_of_port (enterListen_port _) _ _ _, ⟨rfl, rfl⟩, enterListen_ctl _, enterListen_link _, htag, hoverflow,
      congrArg Shed.restore hshed, (congrArg Shed.cut hshed :), congrArg Demand.startNeed hdemand,
      congrArg Demand.stopNeed hdemand, still, arms, ?_⟩
    simp [Kept, Service.answerTo, accept, Service.effect, afterSelect]

/-! ### RESTART and the end of a select period (R160, R161, R168) -/

/-- An accepted RESTART changes the reply in progress alone; its reset follows the reply (R168). -/
theorem accept_restart_spec (s : State) :
    Safety.Answers .accepted [] .restart (accept .restart [] (afterSelect s)) ∧
      sameFlags s (accept .restart [] (afterSelect s)) ∧ Kept [.port] s (accept .restart [] (afterSelect s)) :=
  ⟨⟨rfl, rfl⟩, ⟨rfl, rfl, rfl, rfl, rfl⟩, by simp [Kept, accept, Service.effect, afterSelect]⟩

/-- Where an accepted RESTART waits, the end of select resets the station with the straps at their pins' levels (R168, log entry
11). -/
theorem endSelect_restart (s : State) (h : s.port.phase = .replying .restart) :
    (endSelect s).ctl = Control.reset s.ctl.pins s.ctl.stored s.ctl.locked ∧ (endSelect s).port.phase = .waiting := by
  rw [endSelect, if_pos h]
  exact ⟨(resetStation_blocks s.ctl.pins .before s).1, rfl⟩

/-- Settles O57: RESTART by its refusals, its reset by the byte and by select's end. -/
theorem restartResetsAfterItsReply : Obligations.RestartResetsAfterItsReply := by
  unfold Obligations.RestartResetsAfterItsReply
  intro pins s
  have answered (hr : noRestart s) :
      exec (.restart []) s = .next (Service.restart.answerTo [] s (Service.restart.verdict [] s)) :=
    congrArg Host.Outcome.next (serve_eq 0x12 .restart [] s hr rfl rfl)
  refine ⟨fun hr h => ⟨_, answered hr, ?_⟩, fun hr hi hidle => ?_, fun hr => ⟨_, rfl, ?_⟩⟩
  · rw [verdict_restart, if_pos h]
    exact refuse_spec .busy s
  · rw [verdict_restart, if_neg (not_or.2 ⟨hi, not_not.2 hidle⟩)] at answered
    obtain ⟨answers, flags, kept⟩ := accept_restart_spec s
    obtain ⟨uctl, -, -, -, -, ushed, -, uport⟩ := resetStation_blocks pins .before (accept .restart [] (afterSelect s))
    obtain ⟨vctl, vphase⟩ := endSelect_restart (accept .restart [] (afterSelect s)) rfl
    refine ⟨accept .restart [] (afterSelect s), _, endSelect (accept .restart [] (afterSelect s)), answered hr, answers, flags,
      kept, exec_restartReset pins _ rfl, ?_⟩
    rw [uctl, ushed, uport]
    refine ⟨rfl, rfl, rfl, rfl, rfl, rfl, rfl, rfl, ?_⟩
    rw [vctl, vphase]
    exact ⟨rfl, rfl, rfl, rfl⟩
  · rw [endSelect_eq_afterSelect s hr]
    exact ⟨rfl, by simp [Kept, afterSelect]⟩

end Machine
end Sys2Proof


/-! Proofs. STAGE, HOLD and APPLY: the value that three bytes carry, what it makes of the staged set, and the HOLD flag (R153, R154,
R178). -/

namespace Sys2Proof
namespace Machine

open Safety

/-! ### The fields of STAGE (R178) -/

/-- STAGE's three bytes: the identity, and the value in two's complement. -/
theorem stageFields (id hi lo : Byte) :
    fieldAt [id, hi, lo] 0 1 = id.toNat ∧ signedAt [id, hi, lo] 1 2 = BitVec.toInt (hi ++ lo) := by
  have spelled : fieldAt [id, hi, lo] 1 2 = BitVec.toNat (hi ++ lo) := by
    rw [BitVec.toNat_append, ← Nat.shiftLeft_add_eq_or_of_lt lo.isLt, Nat.shiftLeft_eq]
    simp [fieldAt, bytesNat]
  refine ⟨by simp [fieldAt, bytesNat], ?_⟩
  rw [signedAt, spelled, signedNat, BitVec.toInt_eq_toNat_cond]
  have half : (2 * BitVec.toNat (hi ++ lo) < 2 ^ (8 + 8)) ↔ BitVec.toNat (hi ++ lo) < 2 ^ (8 * 2 - 1) := by omega
  simp only [half]
  rfl

theorem staging_fields (id hi lo : Byte) (s : State) :
    s.staging [id, hi, lo] = stageTunable id.toNat (BitVec.toInt (hi ++ lo)) s.ctl.staged := by
  rw [State.staging, (stageFields id hi lo).1, (stageFields id hi lo).2]

/-! ### What a value makes of the staged set (R153) -/

/-- The staged set with a numeric tunable's value in it, by its identity (R178). -/
def Staged.putNumber (g : Staged) (identity : Nat) (x : Int) : Staged :=
  match identity with
  | 0 => { g with ks := some x }
  | 1 => { g with kf := some x }
  | 2 => { g with kq := some x }
  | 3 => { g with kv := some x }
  | 5 => { g with baseSetpoint := some x }
  | 6 => { g with startPct := some x }
  | 7 => { g with stopPct := some x }
  | 8 => { g with restoreMargin := some x }
  | _ => g

/-- A numeric tunable's value leaves the staged values of the others. -/
theorem stagedNumber_putNumber_other (g : Staged) (identity n : Nat) (x : Int) (h : n ≠ identity) :
    stagedNumber n (g.putNumber identity x) = stagedNumber n g := by
  unfold Staged.putNumber
  split
  all_goals
    unfold stagedNumber
    split <;> simp_all

theorem putNumber_choices (g : Staged) (identity : Nat) (x : Int) :
    (g.putNumber identity x).mode = g.mode ∧ (g.putNumber identity x).captureArmed = g.captureArmed := by
  unfold Staged.putNumber
  split <;> exact ⟨rfl, rfl⟩

/-- The identities of the numeric tunables with their ranges (R153, R178). -/
def numericRanges : List (Byte × Int × Int) :=
  [(0, 0, 255), (1, 0, 255), (2, 0, 255), (3, 0, 255), (5, 0, 11000), (6, 5000, 10000), (7, 3000, 9000), (8, 0, 32767)]

/-- A numeric tunable takes any value, limited to its range. -/
theorem stageTunable_number (range : Byte × Int × Int) (h : range ∈ numericRanges) (v : Int) (g : Staged) :
    stageTunable range.1.toNat v g = stageNumber v range.2.1 range.2.2 (g.putNumber range.1.toNat) ∧
      range.2.1 ≤ range.2.2 ∧ ∀ x, stagedNumber range.1.toNat (g.putNumber range.1.toNat x) = some x := by
  simp only [numericRanges, List.mem_cons, List.not_mem_nil, or_false] at h
  rcases h with rfl | rfl | rfl | rfl | rfl | rfl | rfl | rfl <;> exact ⟨rfl, by decide, fun x => rfl⟩

/-- No tunable has an identity above 9 (R178). -/
theorem stageTunable_none (identity : Nat) (v : Int) (g : Staged) (h : 10 ≤ identity) : stageTunable identity v g = none := by
  unfold stageTunable
  split
  case h_11 => rfl
  all_goals omega

/-- A value outside its range is one that its limits change. -/
theorem clampInt_ne_iff (v lo hi : Int) (h : lo ≤ hi) : clampInt v lo hi ≠ v ↔ ¬ (lo ≤ v ∧ v ≤ hi) := by
  rw [clampInt_eq v lo hi h]
  omega

/-- The codes of an enumerated tunable (R178). -/
theorem stageChoice_code (hi lo : Byte) (put : Bool → Staged) :
    stageChoice (BitVec.toInt (hi ++ lo)) put =
      if hi ++ lo = (0 : BitVec 16) then some { staged := put false, clamped := false }
      else if hi ++ lo = (1 : BitVec 16) then some { staged := put true, clamped := false }
      else none := by
  have zero : BitVec.toInt (hi ++ lo) = 0 ↔ hi ++ lo = (0 : BitVec 16) :=
    ⟨fun h => BitVec.eq_of_toInt_eq (h.trans rfl), fun h => (congrArg BitVec.toInt h).trans rfl⟩
  have one : BitVec.toInt (hi ++ lo) = 1 ↔ hi ++ lo = (1 : BitVec 16) :=
    ⟨fun h => BitVec.eq_of_toInt_eq (h.trans rfl), fun h => (congrArg BitVec.toInt h).trans rfl⟩
  simp only [stageChoice, zero, one]

/-! ### STAGE, HOLD and APPLY in a station state (R153, R154) -/

/-- STAGE's refusals in the order of its rule (R153). -/
theorem refusal_stage (id hi lo : Byte) (s : State) :
    Service.stage.refusal [id, hi, lo] s =
      if s.ctl.station = .standby then some .wrongState
      else if stageTunable id.toNat (BitVec.toInt (hi ++ lo)) s.ctl.staged = none then some .badValue
      else none := by
  simp [Service.refusal, firstRefusal, State.inStandby, staging_fields]

theorem exec_stage (id hi lo : Byte) (s : State) (hr : noRestart s) (past : s.ctl.station ≠ .init) :
    exec (.stage [id, hi, lo]) s =
      .next (Service.stage.answerTo [id, hi, lo] s (Service.stage.refusal [id, hi, lo] s)) := by
  rw [← verdict_past _ _ s past]
  exact congrArg Host.Outcome.next (serve_eq 0x0B .stage [id, hi, lo] s hr rfl rfl)

/-- STAGE with a value taken: the staged set, with CLAMPED where the value was limited. -/
theorem exec_stage_taken (id hi lo : Byte) (s : State) (hr : noRestart s) (ha : s.ctl.station.active = true)
    (x : StageTaken) (hx : stageTunable id.toNat (BitVec.toInt (hi ++ lo)) s.ctl.staged = some x) :
    exec (.stage [id, hi, lo]) s =
      .next (answerWith .accepted [] .plain
        (raiseIf x.clamped .clamped ((afterSelect s).setCtl { s.ctl with staged := x.staged }))) := by
  have taken : (afterSelect s).staging [id, hi, lo] = some x := (staging_fields id hi lo s).trans hx
  have effect : stageEffect [id, hi, lo] (afterSelect s) =
      raiseIf x.clamped .clamped ((afterSelect s).setCtl { s.ctl with staged := x.staged }) := by
    simp only [stageEffect, taken]
    rfl
  rw [exec_stage id hi lo s hr (of_active ha).1, refusal_stage, if_neg (of_active ha).2, if_neg (by simp [hx])]
  exact congrArg (fun t => Host.Outcome.next (answerWith .accepted [] .plain t)) effect

/-- STAGE with a value that names nothing. -/
theorem exec_stage_refused (id hi lo : Byte) (s : State) (hr : noRestart s) (ha : s.ctl.station.active = true)
    (hx : stageTunable id.toNat (BitVec.toInt (hi ++ lo)) s.ctl.staged = none) :
    exec (.stage [id, hi, lo]) s = .next (refuse .badValue (afterSelect s)) := by
  rw [exec_stage id hi lo s hr (of_active ha).1, refusal_stage, if_neg (of_active ha).2, if_pos hx]
  rfl

/-- In STANDBY STAGE is refused whatever its fields (R153). -/
theorem exec_stage_standby (id hi lo : Byte) (s : State) (hr : noRestart s) (hs : s.ctl.station = .standby) :
    exec (.stage [id, hi, lo]) s = .next (refuse .wrongState (afterSelect s)) := by
  rw [exec_stage id hi lo s hr (by rw [hs]; decide), refusal_stage, if_pos hs]
  rfl

/-- Past INIT, STANDBY alone refuses a command whose one refusal is STANDBY's. -/
theorem verdict_standby (c : Service) (s : State)
    (h : c.refusal [] s = firstRefusal [(s.inStandby, .wrongState)]) (hi : s.ctl.station ≠ .init) :
    c.verdict [] s = if s.ctl.station = .standby then some .wrongState else none := by
  rw [verdict_past c [] s hi, h]
  simp [firstRefusal, State.inStandby]

theorem exec_hold (s : State) (hr : noRestart s) (hi : s.ctl.station ≠ .init) :
    exec (.hold []) s =
      .next (Service.hold.answerTo [] s (if s.ctl.station = .standby then some .wrongState else none)) := by
  rw [← verdict_standby .hold s rfl hi]
  exact congrArg Host.Outcome.next (serve_eq 0x0C .hold [] s hr rfl rfl)

theorem exec_apply (s : State) (hr : noRestart s) (hi : s.ctl.station ≠ .init) :
    exec (.apply []) s =
      .next (Service.apply.answerTo [] s (if s.ctl.station = .standby then some .wrongState else none)) := by
  rw [← verdict_standby .apply s rfl hi]
  exact congrArg Host.Outcome.next (serve_eq 0x0D .apply [] s hr rfl rfl)

/-- What a raise at a condition does to the change word (R169). -/
theorem raiseIf_changeWord (c : Bool) (f : ChangeFlag) (s : State) :
    (raiseIf c f s).port.changeWord = if c = true then s.port.changeWord ||| f.mask else s.port.changeWord := by
  cases c <;> rfl

/-- Station control replaced and the command accepted: no flag changes and no other block (R162). -/
theorem accepted_setCtl_spec (x : Control) (s : State) :
    Safety.Answers .accepted [] .plain (answerWith .accepted [] .plain ((afterSelect s).setCtl x)) ∧
      (answerWith .accepted [] .plain ((afterSelect s).setCtl x)).ctl = x ∧
      sameFlags s (answerWith .accepted [] .plain ((afterSelect s).setCtl x)) ∧
      Kept [.ctl, .port] s (answerWith .accepted [] .plain ((afterSelect s).setCtl x)) :=
  ⟨⟨rfl, rfl⟩, rfl, ⟨rfl, rfl, rfl, rfl, rfl⟩, by simp [Kept, afterSelect]⟩

/-- An enumerated tunable is staged by its code, or the staged set stands (R153). -/
theorem exec_stage_choice (id hi lo : Byte) (put : Bool → Staged) (s : State) (hr : noRestart s)
    (ha : s.ctl.station.active = true)
    (h : stageTunable id.toNat (BitVec.toInt (hi ++ lo)) s.ctl.staged = stageChoice (BitVec.toInt (hi ++ lo)) put) :
    ∃ t, exec (.stage [id, hi, lo]) s = .next t ∧ sameFlags s t ∧ Kept [.ctl, .port] s t ∧
      (if hi ++ lo = (0 : BitVec 16) then
        Safety.Answers .accepted [] .plain t ∧ t.ctl = { s.ctl with staged := put false }
      else if hi ++ lo = (1 : BitVec 16) then
        Safety.Answers .accepted [] .plain t ∧ t.ctl = { s.ctl with staged := put true }
      else Safety.Answers .badValue [] .plain t ∧ t.ctl = s.ctl) := by
  rw [stageChoice_code] at h
  split_ifs at h ⊢
  · obtain ⟨answers, hctl, flags, kept⟩ := accepted_setCtl_spec { s.ctl with staged := put false } s
    exact ⟨_, exec_stage_taken id hi lo s hr ha _ h, flags, kept, answers, hctl⟩
  · obtain ⟨answers, hctl, flags, kept⟩ := accepted_setCtl_spec { s.ctl with staged := put true } s
    exact ⟨_, exec_stage_taken id hi lo s hr ha _ h, flags, kept, answers, hctl⟩
  · obtain ⟨answers, flags, -⟩ := refuse_spec .badValue s
    exact ⟨_, exec_stage_refused id hi lo s hr ha h, flags, by simp [Kept, afterSelect], answers, rfl⟩

/-- Settles O54: a number by its limits, a code by its two values, HOLD and APPLY by the flag, and STANDBY's refusal. -/
theorem stagingCommands : Obligations.StagingCommands := by
  unfold Obligations.StagingCommands
  refine fun s hr => ⟨fun ha => ⟨fun hi lo range hrange => ?_, fun hi lo => ?_, fun id hi lo hid => ?_, ?_, ?_⟩,
    fun hs id hi lo => ?_⟩
  · obtain ⟨taken, order, own⟩ := stageTunable_number range hrange (BitVec.toInt (hi ++ lo)) s.ctl.staged
    obtain ⟨mode, armed⟩ := putNumber_choices s.ctl.staged range.1.toNat
      (clampInt (BitVec.toInt (hi ++ lo)) range.2.1 range.2.2)
    refine ⟨_, exec_stage_taken range.1 hi lo s hr ha _ taken, ⟨rfl, rfl⟩, ?_⟩
    rw [answerWith_ctl, raiseIf_ctl, State.setCtl_ctl]
    refine ⟨(own _).trans (congrArg some (clampInt_eq _ _ _ order)),
      fun n hn => stagedNumber_putNumber_other _ _ n _ hn, mode, armed, rfl, ?_, by simp [Kept, afterSelect]⟩
    refine (raiseIf_changeWord _ _ _).trans ?_
    simp only [decide_eq_true_eq, clampInt_ne_iff _ _ _ order, ite_not]
    rfl
  · obtain ⟨t, ht, tflags, tkept, tchoice⟩ := exec_stage_choice 4 hi lo
      (fun b => { s.ctl.staged with mode := some (if b then .base else .share) }) s hr ha rfl
    obtain ⟨u, hu, uflags, ukept, uchoice⟩ := exec_stage_choice 9 hi lo
      (fun b => { s.ctl.staged with captureArmed := some b }) s hr ha rfl
    refine ⟨t, u, ht, hu, tflags, uflags, tkept, ukept, ?_⟩
    by_cases zero : hi ++ lo = (0 : BitVec 16)
    · rw [if_pos zero] at tchoice uchoice ⊢
      exact ⟨tchoice.1, uchoice.1, tchoice.2, uchoice.2⟩
    · rw [if_neg zero] at tchoice uchoice ⊢
      by_cases one : hi ++ lo = (1 : BitVec 16)
      · rw [if_pos one] at tchoice uchoice ⊢
        exact ⟨tchoice.1, uchoice.1, tchoice.2, uchoice.2⟩
      · rw [if_neg one] at tchoice uchoice ⊢
        exact ⟨tchoice.1, uchoice.1, tchoice.2, uchoice.2⟩
  · exact ⟨_, exec_stage_refused id hi lo s hr ha (stageTunable_none _ _ _ hid), refuse_spec .badValue s⟩
  · have held := exec_hold s hr (of_active ha).1
    rw [if_neg (of_active ha).2] at held
    exact ⟨_, held, accepted_setCtl_spec _ s⟩
  · have applied := exec_apply s hr (of_active ha).1
    rw [if_neg (of_active ha).2] at applied
    exact ⟨_, applied, accepted_setCtl_spec _ s⟩
  · have past : s.ctl.station ≠ .init := by rw [hs]; decide
    have held := exec_hold s hr past
    have applied := exec_apply s hr past
    rw [if_pos hs] at held applied
    exact ⟨_, exec_stage_standby id hi lo s hr hs, held, applied, refuse_spec .wrongState s⟩

end Machine
end Sys2Proof

/-! Proofs. The attention line in LEVEL mode through every command and every step (R172): blocks reach the port by raised flags,
the port clears flags by its own commands, and only the end of INIT sets its modes anew. -/

namespace Sys2Proof
namespace Machine

open Safety

/-! ### What keeps the line (R169 to R172) -/

/-- Work after which the line stands by LEVEL mode where it did before. -/
def KeepsLine (s t : State) : Prop := attentionOk s → attentionOk t

theorem KeepsLine.refl (s : State) : KeepsLine s s := id

theorem KeepsLine.trans {s t u : State} (h : KeepsLine s t) (k : KeepsLine t u) : KeepsLine s u := k ∘ h

theorem KeepsLine.ite {s t : State} {c : Prop} [Decidable c] (h : c → KeepsLine s t) : KeepsLine s (if c then t else s) := by
  split
  · next hc => exact h hc
  · exact .refl s

/-- The line's law reads the change word, the line and its pulse, attention_mode and attention_mask, and whether INIT stands. -/
theorem KeepsLine.of_modes {s t : State} (station : t.ctl.station = .init → s.ctl.station = .init)
    (mode : t.ctl.cfg.attentionMode = s.ctl.cfg.attentionMode) (mask : t.ctl.cfg.attentionMask = s.ctl.cfg.attentionMask)
    (word : t.port.changeWord = s.port.changeWord) (attention : t.port.attention = s.port.attention)
    (pulse : t.port.pulse = s.port.pulse) : KeepsLine s t := by
  unfold KeepsLine attentionOk attentionLevel
  rw [mode, mask, word, attention, pulse]
  exact fun ok => ⟨ok.1 ∘ station, ok.2⟩

/-- Work that leaves station control and the port alone. -/
theorem KeepsLine.of_eq {s t : State} (hctl : t.ctl = s.ctl) (hport : t.port = s.port) : KeepsLine s t :=
  .of_modes (by rw [hctl]; exact id) (by rw [hctl]) (by rw [hctl]) (by rw [hport]) (by rw [hport]) (by rw [hport])

/-- Work that leaves the port and its modes, and does not enter INIT. -/
theorem KeepsLine.of_cfg {s t : State} (station : t.ctl.station ≠ .init) (hcfg : t.ctl.cfg = s.ctl.cfg)
    (hport : t.port = s.port) : KeepsLine s t :=
  .of_modes (fun h => absurd h station) (by rw [hcfg]) (by rw [hcfg]) (by rw [hport]) (by rw [hport]) (by rw [hport])

theorem raise_pulse_level (f : ChangeFlag) (s : State) (h : s.ctl.cfg.attentionMode = .level) :
    (raise f s).port.pulse = s.port.pulse := by
  simp [raise, Port.raise, State.setPort, h]

/-- In LEVEL mode the line rises with the first enabled flag (R172). -/
theorem keepsLine_raise (f : ChangeFlag) (s : State) : KeepsLine s (raise f s) := fun ok => by
  obtain ⟨init, line⟩ := ok
  exact ⟨init, fun level => ⟨raise_attention_level f s level, (raise_pulse_level f s level).trans (line level).2⟩⟩

theorem keepsLine_raiseIf (c : Bool) (f : ChangeFlag) (s : State) : KeepsLine s (raiseIf c f s) :=
  .ite fun _ => keepsLine_raise f s

/-- In LEVEL mode the line falls with the last enabled flag (R172). -/
theorem keepsLine_clearFlags (w : FlagWord) (s : State) : KeepsLine s (clearFlags w s) := fun ok => by
  obtain ⟨init, line⟩ := ok
  exact ⟨init, fun level => ⟨clearFlags_attention_level w s level, (line level).2⟩⟩

theorem keepsLine_setIntake (x : Intake) (s : State) : KeepsLine s (s.setIntake x) := .of_eq rfl rfl
theorem keepsLine_setLink (x : Link) (s : State) : KeepsLine s (s.setLink x) := .of_eq rfl rfl
theorem keepsLine_setView (x : View) (s : State) : KeepsLine s (s.setView x) := .of_eq rfl rfl
theorem keepsLine_setLs (x : LoadShare) (s : State) : KeepsLine s (s.setLs x) := .of_eq rfl rfl
theorem keepsLine_setDemand (x : Demand) (s : State) : KeepsLine s (s.setDemand x) := .of_eq rfl rfl
theorem keepsLine_setShed (x : Shed) (s : State) : KeepsLine s (s.setShed x) := .of_eq rfl rfl
theorem keepsLine_setCap (x : Capture) (s : State) : KeepsLine s (s.setCap x) := .of_eq rfl rfl

/-- Work that changes the load-share unit and raises one flag. -/
theorem keepsLine_raise_setLs (f : ChangeFlag) (x : LoadShare) (s : State) : KeepsLine s (raise f (s.setLs x)) :=
  (keepsLine_setLs x s).trans (keepsLine_raise f _)

theorem keepsLine_sendActuator (s : State) : KeepsLine s (sendActuator s) := .ite fun _ => keepsLine_setLs _ s

theorem keepsLine_queueAlert (a : Alert) (s : State) : KeepsLine s (queueAlert a s) := by
  rcases queueAlert_cases a s with ⟨_, _, e⟩ | ⟨_, _, e⟩ | ⟨_, e⟩ <;> rw [e]
  · exact keepsLine_setLink _ s
  · exact keepsLine_raise .alertDrop s
  · exact .refl s

/-! ### Capture (R127 to R131, R138) -/

theorem keepsLine_armSlot (s : State) : KeepsLine s (armSlot s) := .of_eq (by simp) (by simp)

theorem keepsLine_offerTrigger (cause : TriggerCause) (s : State) : KeepsLine s (offerTrigger cause s) :=
  (keepsLine_setCap _ s).trans ((keepsLine_raiseIf _ .recordReady _).trans (keepsLine_raiseIf _ .recordFull _))

theorem keepsLine_writeRow (r : RawRow) (s : State) : KeepsLine s (writeRow r s) := by
  unfold writeRow
  split
  · exact .refl s
  · split
    · exact .refl s
    · exact .refl s
    · exact keepsLine_setCap _ s
    · split
      · exact (keepsLine_setCap _ s).trans ((keepsLine_raise .recordReady _).trans (keepsLine_armSlot _))
      · exact keepsLine_setCap _ s

theorem keepsLine_standbyCapture (s : State) : KeepsLine s (standbyCapture s) := by
  unfold standbyCapture
  split
  · exact .refl s
  · split
    · exact .refl s
    · exact .refl s
    · exact keepsLine_setCap _ s
    · exact (keepsLine_setCap _ s).trans (keepsLine_raise .recordReady _)

/-! ### The set (R56 to R64, R73 to R78) -/

theorem keepsLine_abandonRampOut (s : State) : KeepsLine s (abandonRampOut s) :=
  .ite fun _ => keepsLine_raise_setLs .unit _ s

theorem keepsLine_refreshBias (s : State) : KeepsLine s (refreshBias s) := by
  unfold refreshBias
  split
  · exact (keepsLine_setLs _ s).trans (keepsLine_abandonRampOut _)
  · exact keepsLine_setLs _ s

theorem keepsLine_refreshBiasNow (s : State) : KeepsLine s (refreshBiasNow s) := by
  unfold refreshBiasNow
  split
  · exact (keepsLine_refreshBias s).trans (keepsLine_sendActuator _)
  · exact keepsLine_refreshBias s

theorem keepsLine_takeUpSet (s : State) : KeepsLine s (takeUpSet s) := .ite fun _ => keepsLine_raise_setLs .unit _ s

theorem keepsLine_setSettlesClosed (s : State) : KeepsLine s (setSettlesClosed s) :=
  .ite fun _ => (keepsLine_setLs _ s).trans
    ((keepsLine_setDemand _ _).trans ((keepsLine_raise .unit _).trans (keepsLine_refreshBiasNow _)))

theorem keepsLine_tripSet (s : State) : KeepsLine s (tripSet s) :=
  (keepsLine_queueAlert (.trip s.ctl.cfg.pRated s.intake.means.p) s).trans ((keepsLine_setLs _ _).trans
    ((keepsLine_sendActuator _).trans ((keepsLine_raise .unit _).trans (keepsLine_offerTrigger .tripHeard _))))

theorem keepsLine_setSettlesOpen (s : State) : KeepsLine s (setSettlesOpen s) := by
  refine .ite fun _ => ?_
  split
  · exact (keepsLine_setLs _ s).trans ((keepsLine_sendActuator _).trans (keepsLine_raise .unit _))
  · exact keepsLine_tripSet s

/-! ### The cut rank, the sums and the tie state (R44, R52, R104) -/

theorem keepsLine_increaseCut (cut : Nat) (cause : Option ShedCause) (s : State) :
    KeepsLine s (increaseCut cut cause s) := by
  have raised := (keepsLine_setShed (s.shedRaised cut) s).trans (keepsLine_raise .shedStep _)
  have abandoned := (raised.trans (keepsLine_offerTrigger .shedStep _)).trans
    (.ite (c := (offerTrigger .shedStep (raise .shedStep (s.setShed (s.shedRaised cut)))).isGenset = true)
      fun _ => keepsLine_abandonRampOut _)
  cases cause with
  | none => exact abandoned
  | some c => exact abandoned.trans (keepsLine_queueAlert (.shed cut c) _)

theorem keepsLine_evaluateCapacity (s : State) : KeepsLine s (evaluateCapacity s) :=
  .ite fun _ => keepsLine_increaseCut _ _ s

theorem keepsLine_evaluateInRun (s : State) : KeepsLine s (evaluateInRun s) := .ite fun _ => keepsLine_evaluateCapacity s

theorem keepsLine_ladderTest (s : State) : KeepsLine s (ladderTest s) := .ite fun _ => keepsLine_increaseCut _ _ s

theorem keepsLine_deadEntry (s : State) : KeepsLine s (deadEntry s) := .ite fun _ => keepsLine_increaseCut _ _ s

theorem keepsLine_adopt (cut : Nat) (inIsland : Bool) (s : State) : KeepsLine s (adopt cut inIsland s) :=
  .ite fun _ => keepsLine_increaseCut _ _ s

theorem keepsLine_deficitAbandons (s : State) : KeepsLine s (deficitAbandons s) :=
  .ite fun _ => keepsLine_abandonRampOut s

theorem keepsLine_immediateSums (s : State) : KeepsLine s (immediateSums s) :=
  (keepsLine_setView _ s).trans ((keepsLine_deficitAbandons _).trans (keepsLine_evaluateInRun _))

theorem keepsLine_deriveTieNow (s : State) : KeepsLine s (deriveTieNow s) := by
  unfold deriveTieNow
  split
  · exact .refl s
  · exact (keepsLine_setView _ s).trans ((keepsLine_setView _ _).trans ((keepsLine_deficitAbandons _).trans
      ((keepsLine_setShed _ _).trans (keepsLine_evaluateInRun _))))

theorem keepsLine_deriveIf (c : Bool) (s : State) : KeepsLine s (deriveIf c s) := .ite fun _ => keepsLine_deriveTieNow s

/-! ### One accepted sample (R3) -/

theorem keepsLine_handSetBreaker (n : BreakerNews) (s : State) : KeepsLine s (handSetBreaker n s) := by
  have raised := keepsLine_raiseIf n.any .breaker s
  unfold handSetBreaker
  split
  · cases n.reading with
    | closed => exact raised.trans (keepsLine_setSettlesClosed _)
    | opened => exact raised.trans (keepsLine_setSettlesOpen _)
    | transit => exact raised
    | discrepant => exact raised
  · exact raised

theorem keepsLine_handUfSet (s : State) : KeepsLine s (handUfSet s) := by
  unfold handUfSet
  split
  · exact (keepsLine_ladderTest s).trans (keepsLine_setShed _ _)
  · exact keepsLine_abandonRampOut s

theorem keepsLine_handPart (n : SampleNews) (part : SamplePart) (s : State) : KeepsLine s (handPart n part s) := by
  cases part with
  | breakers => exact (keepsLine_handSetBreaker _ s).trans ((keepsLine_setShed _ _).trans (keepsLine_raiseIf _ .group _))
  | tie => exact (keepsLine_raiseIf _ _ s).trans (.ite fun _ => keepsLine_deriveTieNow _)
  | ufShed => exact .ite fun _ => keepsLine_handUfSet s
  | ufTrigger => exact .ite fun _ => keepsLine_offerTrigger _ s
  | dead => exact .ite fun _ => keepsLine_deadEntry s
  | row => exact keepsLine_writeRow _ s

theorem keepsLine_takeSample (x : Sample) (s : State) : KeepsLine s (takeSample x s) :=
  (keepsLine_setIntake _ s).trans ((keepsLine_raiseIf _ .measure _).trans
    ((keepsLine_raiseIf _ .engineReady _).trans (keepsLine_refreshBiasNow _)))

theorem keepsLine_acceptSample (x : Sample) (order : List SamplePart) (s : State) : KeepsLine s (acceptSample x order s) :=
  foldl_keeps _ (fun t => KeepsLine s t) (fun t part h => h.trans (keepsLine_handPart _ part t)) _ _
    (keepsLine_takeSample x s)

/-! ### Frame arrivals (R34, R38, R39, R40) -/

theorem keepsLine_tripSums (f : Frame) (ratedKw p : Int) (s : State) : KeepsLine s (tripSums f ratedKw p s) :=
  (keepsLine_setView _ s).trans ((keepsLine_deriveIf _ _).trans (keepsLine_immediateSums _))

theorem keepsLine_arriveTrip (f : Frame) (ratedKw p : Int) (captureFirst : Bool) (s : State) :
    KeepsLine s (arriveTrip f ratedKw p captureFirst s) := by
  have heard := keepsLine_raise .tripHeard s
  unfold arriveTrip
  split
  · exact heard.trans ((keepsLine_offerTrigger _ _).trans (keepsLine_tripSums f ratedKw p _))
  · exact heard.trans ((keepsLine_tripSums f ratedKw p _).trans (keepsLine_offerTrigger _ _))

theorem keepsLine_arrive (f : Frame) (captureFirst : Bool) (s : State) : KeepsLine s (arrive f captureFirst s) := by
  unfold arrive
  split
  · split
    · exact (keepsLine_setView _ s).trans (keepsLine_deriveIf _ _)
    · exact (keepsLine_setView _ s).trans (keepsLine_deriveTieNow _)
    · exact keepsLine_arriveTrip f _ _ captureFirst s
    · exact (keepsLine_setView _ s).trans (keepsLine_adopt _ _ _)
  · exact (keepsLine_setView _ s).trans ((keepsLine_raiseIf _ .link _).trans (keepsLine_deriveIf _ _))

/-! ### Moves between station states (R145 to R150) -/

/-- A move of the station state to another than INIT, its counters set. -/
theorem keepsLine_station (st : StationState) (listen fallback : Nat) (s : State) (h : st ≠ .init) :
    KeepsLine s (s.setCtl { s.ctl with station := st, listenCount := listen, fallbackCount := fallback }) :=
  .of_cfg h rfl rfl

theorem keepsLine_zeroNeedTimers (s : State) : KeepsLine s (zeroNeedTimers s) := .of_eq (by simp) (by simp)

theorem keepsLine_enterFallback (s : State) : KeepsLine s (enterFallback s) :=
  (keepsLine_station .fallback s.ctl.listenCount 0 s (by decide)).trans ((keepsLine_raise .link _).trans
    ((keepsLine_zeroNeedTimers _).trans (keepsLine_refreshBias _)))

theorem keepsLine_returnToRun (s : State) : KeepsLine s (returnToRun s) :=
  (keepsLine_station .run s.ctl.listenCount 0 s (by decide)).trans
    ((keepsLine_raise .link _).trans (keepsLine_refreshBias _))

theorem keepsLine_enterRun (s : State) : KeepsLine s (enterRun s) :=
  (keepsLine_station .run 0 s.ctl.fallbackCount s (by decide)).trans ((keepsLine_setLink _ _).trans
    ((keepsLine_takeUpSet _).trans (keepsLine_refreshBias _)))

theorem keepsLine_enterSilent (s : State) : KeepsLine s (enterSilent s) := by
  have silenced := (keepsLine_station .silent 0 0 s (by decide)).trans
    ((keepsLine_setLink s.link.silenced _).trans (keepsLine_zeroNeedTimers _))
  exact (silenced.trans (.ite fun _ => keepsLine_takeUpSet _)).trans
    ((keepsLine_refreshBias _).trans (keepsLine_sendActuator _))

theorem keepsLine_transmitFailure (s : State) : KeepsLine s (transmitFailure s) :=
  .ite fun _ => (keepsLine_enterFallback s).trans (keepsLine_sendActuator _)

theorem keepsLine_addressClash (s : State) : KeepsLine s (addressClash s) :=
  .ite fun _ => (keepsLine_raise .clash s).trans (keepsLine_enterSilent _)

/-- The port keeps its flags and its line at STANDBY entry but for what it may raise (R174). -/
theorem keepsLine_enterStandbyState (s : State) : KeepsLine s (enterStandbyState s) := by
  have captured : KeepsLine s (standbyCapture (standbyReady s)) :=
    (keepsLine_raiseIf _ .engineReady s).trans (keepsLine_standbyCapture _)
  exact captured.trans (.of_cfg (by rw [enterStandbyState_ctl]; exact fun h => nomatch h)
    (by rw [enterStandbyState_ctl]; simp [Control.standby]) (by simp [enterStandbyState]))

theorem keepsLine_enterListen (s : State) : KeepsLine s (enterListen s) :=
  .of_cfg (by rw [enterListen_ctl]; exact fun h => nomatch h) (by rw [enterListen_ctl]) (enterListen_port s)

/-- A reset leaves no flag set, the line deasserted and LEVEL mode in INIT (R160, R174, log entry 12). -/
theorem attentionOk_resetStation (pins : Straps) (cut : StoreCut) (s : State) : attentionOk (resetStation pins cut s) := by
  obtain ⟨hctl, -, -, -, -, -, -, hport⟩ := resetStation_blocks pins cut s
  have low (c : Settings) : attentionLevel c 0 = false := by simp [attentionLevel]
  unfold attentionOk
  rw [hctl, hport]
  exact ⟨fun _ => rfl, fun _ => ⟨(low _).symm, rfl⟩⟩

/-- INIT's end takes the port's modes: into LEVEL mode with the line at its level, and no pulse runs from INIT (R142, R174). -/
theorem keepsLine_endInit (s : State) (hs : s.ctl.station = .init) : KeepsLine s (endInit s) := fun ok => by
  obtain ⟨init, line⟩ := ok
  have hctl := endInit_ctl s
  have hport : (endInit s).port = s.port.takeModes s.ctl.takenConfig := by simp [endInit, Control.endInit]
  refine ⟨fun h => ?_, fun level => ?_⟩
  · rw [hctl] at h; exact nomatch h
  · have taken : s.ctl.takenConfig.attentionMode = .level := by rw [hctl] at level; exact level
    rw [hctl, hport]
    exact ⟨by simp [Port.takeModes, taken, Control.endInit], (line (init hs)).2⟩

/-! ### The share link's commands (R23, R28, R29, R33) -/

theorem keepsLine_errFrame (fl : Flight) (s : State) : KeepsLine s (errFrame fl s) := by
  rw [errFrame_def]
  split
  · exact (keepsLine_setLink (s.link.erred fl) s).trans (keepsLine_transmitFailure _)
  · exact keepsLine_setLink (s.link.erred fl) s

theorem keepsLine_endFlight (fl : Flight) (line : List Bool) (s : State) : KeepsLine s (endFlight fl line s) := by
  unfold endFlight
  cases fl.judge line with
  | lost => exact keepsLine_setLink _ s
  | sent => exact keepsLine_errFrame fl s
  | erred => exact keepsLine_errFrame fl s

theorem keepsLine_dropFrame (line : List Bool) (n : Nat) (s : State) : KeepsLine s (dropFrame line n s) := by
  unfold dropFrame
  cases s.link.flight with
  | none => exact keepsLine_setLink _ s
  | some fl => exact (keepsLine_endFlight fl line s).trans (keepsLine_setLink _ _)

theorem keepsLine_takeFrame (f : Frame) (captureFirst : Bool) (s : State) : KeepsLine s (takeFrame f captureFirst s) := by
  unfold takeFrame
  split
  · exact keepsLine_addressClash s
  · exact keepsLine_arrive f captureFirst s

theorem keepsLine_validFrame (line : List Bool) (f : Frame) (captureFirst : Bool) (s : State) :
    KeepsLine s (validFrame line f captureFirst s) := by
  have taken (t : State) (h : KeepsLine s t) : KeepsLine s (takeFrame f captureFirst (endReception 0 t)) :=
    h.trans ((keepsLine_setLink _ t).trans (keepsLine_takeFrame f captureFirst _))
  unfold validFrame
  cases s.link.flight with
  | none => exact taken s (.refl s)
  | some fl =>
    cases hj : fl.judge line with
    | sent => simp only [hj]; exact (keepsLine_setLink _ s).trans (keepsLine_setLink _ _)
    | lost => simp only [hj]; exact taken _ (keepsLine_setLink _ s)
    | erred => simp only [hj]; exact taken _ (keepsLine_errFrame fl s)

/-! ### The blocks' work at an expiry (R68, R88 to R94, R119) -/

theorem keepsLine_lsComplete (s : State) : KeepsLine s (lsComplete s) := .ite fun _ => keepsLine_raise_setLs .unit _ s

theorem keepsLine_loadShareWork (fresh : Bool) (s : State) : KeepsLine s (loadShareWork fresh s) := by
  have ramped : KeepsLine (lsAbandon s) (lsBias (lsRamp fresh (lsAbandon s))) := .of_eq (by simp) (by simp)
  unfold loadShareWork
  split
  · split
    · exact (keepsLine_deficitAbandons s).trans (ramped.trans ((keepsLine_lsComplete _).trans
        (.of_eq (by simp) (by simp))))
    · exact keepsLine_sendActuator s
  · exact .refl s

theorem keepsLine_startDecision (s : State) : KeepsLine s (startDecision s) := by
  have request (t : State) : KeepsLine t (startRequest t) :=
    .ite fun _ => (keepsLine_setLs _ t).trans ((keepsLine_setDemand _ _).trans (keepsLine_raise .unit _))
  exact (keepsLine_setDemand _ s).trans (.ite fun _ => request _)

theorem keepsLine_attemptWork (s : State) : KeepsLine s (attemptWork s) := by
  unfold attemptWork
  split
  · have failed := (keepsLine_setDemand { s.demand.endAttempt with lockout := true } s).trans (keepsLine_raise .startFail _)
    exact failed.trans (.ite fun _ => keepsLine_raise_setLs .unit _ _)
  · exact keepsLine_setDemand _ s

theorem keepsLine_beforeStop (s : State) : KeepsLine s (beforeStop s) := by
  unfold beforeStop
  split
  · exact (keepsLine_attemptWork s).trans (keepsLine_startDecision _)
  · exact keepsLine_attemptWork s

theorem keepsLine_stopWork (s : State) : KeepsLine s (stopWork s) := by
  unfold stopWork
  split
  · exact (keepsLine_setDemand _ s).trans (.ite fun _ => keepsLine_raise_setLs .unit _ _)
  · exact keepsLine_setDemand _ s

theorem keepsLine_demandWork (r : ExpiryRun) : KeepsLine r.state (demandWork r).state := by
  have before := keepsLine_beforeStop r.state
  simp only [demandWork]
  split
  · split
    · exact before.trans (keepsLine_stopWork _)
    · exact before
  · exact .refl _

theorem keepsLine_capacityWork (tieChange : Bool) (s : State) : KeepsLine s (capacityWork tieChange s) := by
  have zeroed : KeepsLine s (if tieChange then zeroRestore s else s) := .ite fun _ => keepsLine_setShed _ s
  exact zeroed.trans (.ite fun _ => keepsLine_evaluateCapacity _)

theorem keepsLine_ladderWork (s : State) : KeepsLine s (ladderWork s) := by
  unfold ladderWork
  split
  · exact .refl s
  · split
    · exact .refl s
    · split
      · exact keepsLine_setShed _ s
      · split
        · exact (keepsLine_setShed _ s).trans (keepsLine_ladderTest _)
        · exact keepsLine_setShed _ s

theorem keepsLine_restoreWork (s : State) : KeepsLine s (restoreWork s) := by
  refine .ite fun _ => ?_
  split
  · exact (keepsLine_setShed _ s).trans (keepsLine_raise .restoreStep _)
  · exact keepsLine_setShed _ s

theorem keepsLine_shedWork (tieChange : Bool) (r : ExpiryRun) : KeepsLine r.state (shedWork tieChange r).state := by
  have counted : KeepsLine r.state (countSettle (rememberLoads r.state)) := .of_eq (by simp) (by simp)
  exact counted.trans ((keepsLine_capacityWork tieChange _).trans
    ((keepsLine_ladderWork _).trans (keepsLine_restoreWork _)))

theorem keepsLine_expiryPart (tieChange : Bool) (part : ExpiryPart) (r : ExpiryRun) :
    KeepsLine r.state (expiryPart tieChange part r).state := by
  cases part with
  | loadShare => exact keepsLine_loadShareWork _ r.state
  | demand => exact keepsLine_demandWork r
  | shed => exact keepsLine_shedWork tieChange r
  | link => exact .ite fun _ => keepsLine_setLink _ r.state

/-! ### The whole expiry (R144) -/

/-- Up to the test point the staged set reaches the tunables alone, and nothing the port (R154). -/
theorem keepsLine_atTestPoint (s : State) : KeepsLine s (atTestPoint s) := by
  obtain ⟨station, -⟩ := atTestPoint_control s
  have modes : (atTestPoint s).ctl.cfg.attentionMode = s.ctl.cfg.attentionMode ∧
      (atTestPoint s).ctl.cfg.attentionMask = s.ctl.cfg.attentionMask := by
    have before : (atTestPoint s).ctl = (applyStaged (s.setCtl { s.ctl with shareTimer := some 0 })).ctl := by
      simp [atTestPoint]
    rw [before, applyStaged_ctl]
    split <;> exact ⟨rfl, rfl⟩
  have port : (atTestPoint s).port = s.port := by simp
  exact .of_modes (station ▸ id) modes.1 modes.2 (by rw [port]) (by rw [port]) (by rw [port])

theorem keepsLine_testPoint (r : ExpiryRun) : KeepsLine r.state (testPoint r).state := by
  have counted (st : StationState) (listen fallback : Nat) (h : st ≠ .init) := keepsLine_station st listen fallback r.state h
  cases h : r.state.ctl.station <;> simp only [testPoint, h]
  case listen =>
    split
    · exact keepsLine_enterRun r.state
    · rw [← h]; exact counted _ _ r.state.ctl.fallbackCount (by rw [h]; decide)
  case run =>
    split
    · exact keepsLine_enterFallback r.state
    · exact .refl _
  case fallback =>
    split
    · split
      · exact keepsLine_returnToRun r.state
      · rw [← h]; exact counted _ r.state.ctl.listenCount _ (by rw [h]; decide)
    · rw [← h]; exact counted _ r.state.ctl.listenCount _ (by rw [h]; decide)
  all_goals exact .refl _

theorem keepsLine_expiryRun (order : List ExpiryPart) (s : State) : KeepsLine s (expiryRun order s).state :=
  foldl_keeps _ (fun r => KeepsLine s r.state) (fun r part h => h.trans (keepsLine_expiryPart _ part r)) _ _
    ((keepsLine_atTestPoint s).trans (keepsLine_testPoint { state := atTestPoint s, events := [] }))

/-! ### The service port -/

/-- A reply in progress and its marks leave the line. -/
theorem keepsLine_setPort (p : Port) (s : State) (word : p.changeWord = s.port.changeWord)
    (attention : p.attention = s.port.attention) (pulse : p.pulse = s.port.pulse) : KeepsLine s (s.setPort p) :=
  .of_modes id rfl rfl word attention pulse

theorem keepsLine_answerWith (r : Result) (content : List Byte) (kind : ReplyKind) (s : State) :
    KeepsLine s (answerWith r content kind s) := keepsLine_setPort _ s rfl rfl rfl

theorem keepsLine_clearTripEffect (s : State) : KeepsLine s (clearTripEffect s) := by
  have unlocked := keepsLine_setDemand { s.demand with lockout := false } s
  refine .ite fun _ => ?_
  dsimp only
  split
  · exact (unlocked.trans (keepsLine_raise_setLs .unit _ _)).trans (.ite fun _ => keepsLine_setSettlesClosed _)
  · exact unlocked

theorem keepsLine_effect (c : Service) (fields : List Byte) (s : State) : KeepsLine s (c.effect fields s) := by
  have control (x : Control) (station : x.station = s.ctl.station) (hcfg : x.cfg = s.ctl.cfg) : KeepsLine s (s.setCtl x) :=
    .of_modes (station ▸ id) (congrArg Settings.attentionMode hcfg) (congrArg Settings.attentionMask hcfg) rfl rfl rfl
  cases c with
  | readStatus => exact keepsLine_setPort _ s rfl rfl rfl
  | ackChanges => exact keepsLine_clearFlags _ s
  | enterStandby => exact .ite fun _ => keepsLine_enterStandbyState s
  | resume => exact keepsLine_enterListen s
  | stage =>
    show KeepsLine s (stageEffect fields s)
    unfold stageEffect
    split
    · exact .refl s
    · next x _ => exact (control { s.ctl with staged := x.staged } rfl rfl).trans (keepsLine_raiseIf _ .clamped _)
  | clearTrip => exact keepsLine_clearTripEffect s
  | forceCapture => exact keepsLine_offerTrigger _ s
  | writeEnable => exact control _ rfl rfl
  | writeConfig => exact control _ rfl rfl
  | lockConfig => exact control _ rfl rfl
  | hold => exact control _ rfl rfl
  | apply => exact control _ rfl rfl
  | _ => exact .refl s

theorem keepsLine_answerCommand (code : Byte) (fields : List Byte) (s : State) :
    KeepsLine s (answerCommand code fields s) := by
  unfold answerCommand
  split
  · split
    · exact .refl s
    · next c _ => exact (keepsLine_effect c fields s).trans (keepsLine_answerWith _ _ _ _)
  · exact keepsLine_answerWith _ _ _ s

theorem keepsLine_resetStation (pins : Straps) (cut : StoreCut) (s : State) : KeepsLine s (resetStation pins cut s) :=
  fun _ => attentionOk_resetStation pins cut s

theorem keepsLine_endSelect (s : State) : KeepsLine s (endSelect s) := by
  have ended (t : State) : KeepsLine t (t.setPort { t.port with phase := .waiting }) := keepsLine_setPort _ t rfl rfl rfl
  unfold endSelect
  split
  · exact (keepsLine_resetStation s.ctl.pins .before s).trans (ended _)
  · exact ended s

theorem keepsLine_serve (code : Byte) (fields : List Byte) (s : State) : KeepsLine s (serve code fields s) :=
  (keepsLine_endSelect s).trans (keepsLine_answerCommand code fields _)

/-- The end of a pulse is one of PULSE mode: in LEVEL mode none runs (R172, R173). -/
theorem keepsLine_pulseEnds (s : State) (due : timerDue Config.pulseUs s.port.pulse = true) :
    KeepsLine s (s.setPort { s.port with attention := false, pulse := none }) := fun ok => by
  obtain ⟨init, line⟩ := ok
  refine ⟨init, fun level => ?_⟩
  rw [(line level).2] at due
  exact nomatch due

/-! ### Every command and every step -/

theorem keepsLine_sampleArrival (bytes : List Byte) (order : List SamplePart) (s : State) :
    Machine.Answers (KeepsLine s) (execSampleArrival bytes order s) := by
  unfold execSampleArrival
  split
  · cases parseSample s.ctl.straps.role bytes with
    | none => exact answers_next (.refl s)
    | some x => exact answers_next (keepsLine_acceptSample x order s)
  · exact answers_next (.refl s)

theorem keepsLine_measureTimerFault (s : State) : Machine.Answers (KeepsLine s) (execMeasureTimerFault s) :=
  answers_ite (.refl s) fun _ => (keepsLine_setIntake _ s).trans ((keepsLine_raise .measure _).trans
    ((keepsLine_raiseIf _ .engineReady _).trans ((keepsLine_refreshBiasNow _).trans (keepsLine_deriveTieNow _))))

theorem keepsLine_transitTimeout (b : Breaker) (s : State) : Machine.Answers (KeepsLine s) (execTransitTimeout b s) := by
  have faulted (x : Intake) (f : ChangeFlag) : KeepsLine s (raise f (s.setIntake x)) :=
    (keepsLine_setIntake x s).trans (keepsLine_raise f _)
  cases b with
  | set => exact answers_ite (.refl s) fun _ => faulted _ .breaker
  | group g =>
    exact answers_ite (.refl s) fun _ =>
      (keepsLine_setIntake _ s).trans ((keepsLine_setShed _ _).trans (keepsLine_raise .group _))
  | tie => exact answers_ite (.refl s) fun _ => (faulted _ .breaker).trans (keepsLine_deriveTieNow _)

theorem keepsLine_frameStart (s : State) : Machine.Answers (KeepsLine s) (execFrameStart s) := by
  unfold execFrameStart
  split
  · cases s.offer with
    | none => exact answers_next (.refl s)
    | some x => exact answers_next (keepsLine_setLink _ s)
  · exact answers_next (.refl s)

theorem keepsLine_arbitrationLoss (s : State) : Machine.Answers (KeepsLine s) (execArbitrationLoss s) := by
  unfold execArbitrationLoss
  cases s.link.flight with
  | none => exact answers_next (.refl s)
  | some fl => exact answers_next (keepsLine_setLink _ s)

theorem keepsLine_transmitError (s : State) : Machine.Answers (KeepsLine s) (execTransmitError s) := by
  intro t e
  rcases execTransmitError_cases s t e with ⟨-, rfl⟩ | ⟨fl, -, ⟨-, rfl⟩ | ⟨-, rfl, -⟩⟩
  · exact .refl _
  · exact keepsLine_errFrame fl s
  · exact (keepsLine_errFrame fl s).trans (keepsLine_setLink _ _)

theorem keepsLine_frameReceived (line : List Bool) (captureFirst : Bool) (s : State) :
    Machine.Answers (KeepsLine s) (execFrameReceived line captureFirst s) := by
  unfold execFrameReceived
  split
  · cases receive line with
    | incomplete => exact answers_next (.refl s)
    | dropped n => exact answers_next (keepsLine_dropFrame line n s)
    | valid f => exact answers_next (keepsLine_validFrame line f captureFirst s)
  · exact answers_next (keepsLine_setLink _ s)

/-- READ-CLEAR clears the flags reported, and WRITE-BACK none (R170, R171). -/
theorem keepsLine_statusReadClear (s : State) : Machine.Answers (KeepsLine s) (execStatusReadClear s) := by
  have settled : KeepsLine s (s.setPort s.port.settled) := keepsLine_setPort _ s rfl rfl rfl
  unfold execStatusReadClear
  split
  · cases s.ctl.cfg.ackMode with
    | readClear => exact answers_next (settled.trans (keepsLine_clearFlags _ _))
    | writeBack => exact answers_next settled
  · exact answers_next (.refl s)

theorem keepsLine_storeCompletion (s : State) : Machine.Answers (KeepsLine s) (execStoreCompletion s) := by
  unfold execStoreCompletion
  split
  · exact answers_next (.refl s)
  · have done : KeepsLine s (s.setCtl s.ctl.storeDone) :=
      .of_modes (storeDone_station s.ctl ▸ id) (congrArg Settings.attentionMode (storeDone_cfg s.ctl))
        (congrArg Settings.attentionMask (storeDone_cfg s.ctl)) rfl rfl rfl
    exact answers_next (done.trans (keepsLine_raise .storeDone _))

theorem exec_keepsLine (c : Instr) (s : State) : Machine.Answers (KeepsLine s) (exec c s) := by
  have named (e : ExpiryEvent) (order : List ExpiryPart) : KeepsLine s (namedExpiry e order s) :=
    .ite fun _ => keepsLine_expiryRun order s
  cases c with
  | reset pins cut => exact answers_next (keepsLine_resetStation pins cut s)
  | restartReset pins => exact answers_ite (.refl s) fun _ => keepsLine_resetStation pins .before s
  | endOfInit => exact answers_ite (.refl s) fun hs => keepsLine_endInit s hs
  | sampleArrival bytes order => exact keepsLine_sampleArrival bytes order s
  | measureTimerHeld => exact answers_ite (.refl s) fun _ => keepsLine_setIntake _ s
  | measureTimerFault => exact keepsLine_measureTimerFault s
  | transitTimeout b => exact keepsLine_transitTimeout b s
  | shareTimerExpiry order => exact answers_next (.ite fun _ => keepsLine_expiryRun order s)
  | listenEnd order => exact answers_next (named _ order)
  | fallbackExit order => exact answers_next (named _ order)
  | startAttemptTimeout order => exact answers_next (named _ order)
  | stopNeedExpiry order => exact answers_next (named _ order)
  | settleTimerExpiry order => exact answers_next (named _ order)
  | ladderStep order => exact answers_next (named _ order)
  | restorationStep order => exact answers_next (named _ order)
  | confirmTimeout g => exact answers_ite (.refl s) fun _ => (keepsLine_setShed _ s).trans (keepsLine_raise .group _)
  | tripTimeout => exact answers_ite (.refl s) fun _ => keepsLine_raise_setLs .breaker _ s
  | stopPulseEnd => exact answers_ite (.refl s) fun _ => keepsLine_setLs _ s
  | timeTagWrap => exact answers_ite (.refl s) fun _ => keepsLine_setCap _ s
  | attentionPulseEnd => exact answers_ite (.refl s) fun due => keepsLine_pulseEnds s due
  | lineIdle => exact answers_ite (.refl s) fun _ => keepsLine_setLink _ s
  | lineBusy => exact answers_next (keepsLine_setLink _ s)
  | frameStart => exact keepsLine_frameStart s
  | arbitrationLoss => exact keepsLine_arbitrationLoss s
  | transmitError => exact keepsLine_transmitError s
  | frameReceived line captureFirst => exact keepsLine_frameReceived line captureFirst s
  | readoutComplete =>
    have settled : KeepsLine s (s.setPort s.port.settled) := keepsLine_setPort _ s rfl rfl rfl
    exact answers_ite (.refl s) fun _ => settled.trans (.of_eq (freeHead_ctl _) (freeHead_port _))
  | statusReadClear => exact keepsLine_statusReadClear s
  | storeCompletion => exact keepsLine_storeCompletion s
  | selectDeassert => exact answers_next (keepsLine_endSelect s)
  | _ => exact answers_next (keepsLine_serve _ _ s)

/-- A microsecond starts no pulse (R173). -/
theorem keepsLine_idle (s : State) : KeepsLine s (idle s) := by
  have advanced : KeepsLine s (advance s) := fun ok => by
    obtain ⟨init, line⟩ := ok
    refine ⟨init, fun level => ⟨(line level).1, ?_⟩⟩
    rw [advance_port, (line level).2]
    rfl
  rw [idle_eq]
  split
  · exact advanced
  · exact advanced.trans (.of_eq rfl rfl)

/-- Settles O12: flags are raised and cleared with the line at its level, no pulse starts in LEVEL mode, a reset clears line and
flags, and INIT's end takes the line to the level of the mode it takes. -/
theorem stepKeepsAttentionLevel : Obligations.StepKeepsAttentionLevel := by
  unfold Obligations.StepKeepsAttentionLevel
  intro s t ok e
  unfold step at e
  cases hq : s.pending with
  | nil => rw [hq] at e; exact answers_next (keepsLine_idle s) t e ok
  | cons c rest => rw [hq] at e; exact exec_keepsLine c { s with pending := rest } t e ok

end Machine
end Sys2Proof

/-! Proofs. The judgment of a command, the change word in the hands of ACK-CHANGES and READ-STATUS, and the status record field by
field (R161 to R163, R165, R169 to R171, R178). -/

namespace Sys2Proof
namespace Machine

open Safety

/-! ### The codes of the commands (R178) -/

/-- The code that names a command. -/
def Service.codeOf : Service → Byte
  | .readIdent => 0x01
  | .readStatus => 0x02
  | .readPeers => 0x03
  | .readGroups => 0x04
  | .readCapture => 0x05
  | .ackChanges => 0x06
  | .writeEnable => 0x07
  | .writeConfig => 0x08
  | .readConfig => 0x09
  | .lockConfig => 0x0A
  | .stage => 0x0B
  | .hold => 0x0C
  | .apply => 0x0D
  | .enterStandby => 0x0E
  | .resume => 0x0F
  | .clearTrip => 0x10
  | .forceCapture => 0x11
  | .restart => 0x12

theorem ofCode_codeOf (c : Service) : Service.ofCode c.codeOf = some c := by cases c <;> rfl

theorem exec_command (c : Service) (fields : List Byte) (s : State) :
    exec (c.command fields) s = .next (serve c.codeOf fields s) := by cases c <;> rfl

/-- A code below 1 or above 18 names no command. -/
theorem ofCode_eq_none (code : Byte) (h : commandCode code = false) : Service.ofCode code = none := by
  simp only [commandCode, Bool.and_eq_false_iff, decide_eq_false_iff_not] at h
  unfold Service.ofCode
  split
  case h_19 => rfl
  all_goals omega

theorem fieldLength_eq (c : Service) :
    c.fieldLength = if c = .ackChanges then 2 else if c = .writeConfig then 78 else if c = .stage then 3 else 0 := by
  cases c <;> rfl

/-! ### Rows 1 to 3 of the judgment (R162) -/

theorem judge_init (code : Byte) (fields : List Byte) (s : State) (h : s.ctl.station = .init) :
    judge code fields s = .busy := if_pos h

theorem judge_unknown (code : Byte) (fields : List Byte) (s : State) (h : s.ctl.station ≠ .init)
    (hc : Service.ofCode code = none) : judge code fields s = .unknown := by
  rw [judge, if_neg h, hc]

theorem judge_badLength (code : Byte) (c : Service) (fields : List Byte) (s : State) (h : s.ctl.station ≠ .init)
    (hc : Service.ofCode code = some c) (hlength : fields.length ≠ c.fieldLength) :
    judge code fields s = .badLength := by
  rw [judge, if_neg h, hc]
  exact if_neg hlength

/-- With no RESTART waiting, a command judged refused is answered by its result byte alone (R162). -/
theorem serve_refused_spec (code : Byte) (fields : List Byte) (s : State) (r : Result) (hr : noRestart s)
    (h : judge code fields (afterSelect s) = r) (refused : r ≠ .accepted) :
    ∃ t, Host.Outcome.next (serve code fields s) = (.next t : Answer) ∧ Safety.Answers r [] .plain t ∧ sameFlags s t ∧
      Kept [.port] s t := by
  rw [serve, endSelect_eq_afterSelect s hr, answerCommand_refused code fields _ r h refused]
  exact ⟨_, rfl, refuse_spec r s⟩

/-- Settles O48, by the row of the judgment that each command meets. -/
theorem portJudgesInOrder : Obligations.PortJudgesInOrder := by
  unfold Obligations.PortJudgesInOrder
  refine fun code fields s hr => ⟨fun hi => ⟨fun c => ?_, ?_⟩, fun hi hcode => ?_, fun hi c hlength => ?_⟩
  · rw [exec_command]
    exact serve_refused_spec _ fields s .busy hr (judge_init _ fields (afterSelect s) hi) (by decide)
  · exact serve_refused_spec code fields s .busy hr (judge_init code fields (afterSelect s) hi) (by decide)
  · exact serve_refused_spec code fields s .unknown hr
      (judge_unknown code fields (afterSelect s) hi (ofCode_eq_none code hcode)) (by decide)
  · rw [exec_command]
    rw [← fieldLength_eq] at hlength
    exact serve_refused_spec _ fields s .badLength hr
      (judge_badLength _ c fields (afterSelect s) hi (ofCode_codeOf c) hlength) (by decide)

/-! ### Flags cleared (R169, R171) -/

theorem flagSet_and_not (v w : FlagWord) (f : ChangeFlag) : flagSet (v &&& ~~~w) f = (flagSet v f && !flagSet w f) := by
  have below : f.bitIndex < 16 := by cases f <;> decide
  simp [flagSet, below]

/-- A clearing clears the flags of its word and leaves the others. -/
theorem flagOf_clearFlags (w : FlagWord) (s : State) (f : ChangeFlag) :
    flagOf (clearFlags w s) f = (flagOf s f && !flagSet w f) := flagSet_and_not s.port.changeWord w f

/-! ### READ-STATUS and the byte of its change word (R165, R169, R170) -/

theorem exec_readStatus (s : State) (hr : noRestart s) (hi : s.ctl.station ≠ .init) :
    exec (.readStatus []) s = .next (answerWith .accepted s.statusReply .status (takeSnapshot (afterSelect s))) :=
  congrArg Host.Outcome.next (serve_accepted 0x02 .readStatus s hr hi rfl rfl fun _ => rfl)

/-- In READ-CLEAR mode the flags reported and not raised again clear with the change word's byte. -/
theorem exec_statusReadClear_readClear (s : State) (h : s.port.phase = .replying .status)
    (mode : s.ctl.cfg.ackMode = .readClear) :
    exec .statusReadClear s = .next (clearFlags (s.port.snapshot &&& ~~~s.port.again) (s.setPort s.port.settled)) := by
  simp only [exec, execStatusReadClear, if_pos h, mode]

/-- In WRITE-BACK mode none clears. -/
theorem exec_statusReadClear_writeBack (s : State) (h : s.port.phase = .replying .status)
    (mode : s.ctl.cfg.ackMode = .writeBack) : exec .statusReadClear s = .next (s.setPort s.port.settled) := by
  simp only [exec, execStatusReadClear, if_pos h, mode]

/-! ### The parts of the status record (R178) -/

/-- A field within a part of a record stands at its place in the part after the bytes before the part. -/
theorem fieldAt_part (front part back : List Byte) (n pos len : Nat) (hn : front.length = n)
    (h : pos + len ≤ part.length) : fieldAt (front ++ part ++ back) (n + pos) len = fieldAt part pos len := by
  subst hn
  rw [List.append_assoc, fieldAt_append _ _ _ _ (Nat.le_add_right _ _), Nat.add_sub_cancel_left]
  simp only [fieldAt]
  rw [List.drop_append_of_le_length (by omega), List.take_append_of_le_length (by rw [List.length_drop]; omega)]

/-- A byte's field is the byte. -/
theorem fieldAt_of_getElem? (bytes : List Byte) (i : Nat) (b : Byte) (h : bytes[i]? = some b) :
    fieldAt bytes i 1 = b.toNat := by
  obtain ⟨inside, rfl⟩ := List.getElem?_eq_some_iff.1 h
  rw [fieldAt, List.drop_eq_getElem_cons inside]
  exact fieldAt_byte _ _

section StatusRecord

variable (s : State)

theorem length_stationBytes : s.stationBytes.length = 4 := rfl

theorem length_gensetBytes : s.gensetBytes.length = 3 := by
  unfold State.gensetBytes
  split <;> rfl

theorem length_shedBytes : s.shedBytes.length = 10 := rfl

theorem length_lfBytes (x : Option Int) : (lfBytes x).length = 4 := by cases x <;> simp [lfBytes]

theorem length_islandBytes : s.islandBytes.length = 23 := by
  simp [State.islandBytes, length_lfBytes, length_valueBytes]

theorem length_captureBytes : s.captureBytes.length = 10 := by simp [State.captureBytes, tagBytes]

/-- The bytes before the change word. -/
def State.statusFront : List Byte :=
  s.stationBytes ++ s.gensetBytes ++ s.shedBytes ++ s.islandBytes ++ s.captureBytes

theorem statusReply_eq : s.statusReply = s.statusFront ++ natBytes 2 s.port.changeWord.toNat := rfl

theorem length_statusFront : s.statusFront.length = 50 := by
  simp [State.statusFront, length_stationBytes, length_gensetBytes, length_shedBytes, length_islandBytes,
    length_captureBytes]

theorem length_statusReply : s.statusReply.length = 52 := by
  simp [statusReply_eq, length_statusFront]

/-- The change word stands last. -/
theorem statusReply_changeWord : s.statusReply.drop 50 = natBytes 2 s.port.changeWord.toNat := by
  rw [statusReply_eq, List.drop_left' (length_statusFront s)]

variable (pos len : Nat)

theorem statusReply_station (h : pos + len ≤ 4) : fieldAt s.statusReply pos len = fieldAt s.stationBytes pos len := by
  have part := fieldAt_part [] s.stationBytes
    (s.gensetBytes ++ s.shedBytes ++ s.islandBytes ++ s.captureBytes ++ natBytes 2 s.port.changeWord.toNat) 0 pos len rfl h
  simpa [State.statusReply] using part

theorem statusReply_genset (h : pos + len ≤ 3) :
    fieldAt s.statusReply (4 + pos) len = fieldAt s.gensetBytes pos len := by
  have part := fieldAt_part s.stationBytes s.gensetBytes
    (s.shedBytes ++ s.islandBytes ++ s.captureBytes ++ natBytes 2 s.port.changeWord.toNat) 4 pos len rfl
    (h.trans_eq (length_gensetBytes s).symm)
  simpa [State.statusReply] using part

theorem statusReply_shed (h : pos + len ≤ 10) :
    fieldAt s.statusReply (7 + pos) len = fieldAt s.shedBytes pos len := by
  have part := fieldAt_part (s.stationBytes ++ s.gensetBytes) s.shedBytes
    (s.islandBytes ++ s.captureBytes ++ natBytes 2 s.port.changeWord.toNat) 7 pos len
    (by simp [length_stationBytes, length_gensetBytes]) h
  simpa [State.statusReply] using part

theorem statusReply_island (h : pos + len ≤ 23) :
    fieldAt s.statusReply (17 + pos) len = fieldAt s.islandBytes pos len := by
  have part := fieldAt_part (s.stationBytes ++ s.gensetBytes ++ s.shedBytes) s.islandBytes
    (s.captureBytes ++ natBytes 2 s.port.changeWord.toNat) 17 pos len
    (by simp [length_stationBytes, length_gensetBytes, length_shedBytes]) (h.trans_eq (length_islandBytes s).symm)
  simpa [State.statusReply] using part

theorem statusReply_capture (h : pos + len ≤ 10) :
    fieldAt s.statusReply (40 + pos) len = fieldAt s.captureBytes pos len := by
  have part := fieldAt_part (s.stationBytes ++ s.gensetBytes ++ s.shedBytes ++ s.islandBytes) s.captureBytes
    (natBytes 2 s.port.changeWord.toNat) 40 pos len
    (by simp [length_stationBytes, length_gensetBytes, length_shedBytes, length_islandBytes])
    (h.trans_eq (length_captureBytes s).symm)
  exact part

end StatusRecord

/-! ### Digits packed into a number -/

/-- Digits packed with the first one lowest stay below the base's power. -/
theorem foldr_digits_lt {α : Type} (b : Nat) (f : α → Nat) (hf : ∀ a, f a < b) (l : List α) :
    l.foldr (fun a n => b * n + f a) 0 < b ^ l.length := by
  induction l with
  | nil => simp
  | cons a rest ih =>
    have digit := hf a
    rw [List.foldr_cons, List.length_cons, Nat.pow_succ']
    calc b * _ + f a < b * (rest.foldr (fun a n => b * n + f a) 0 + 1) := by rw [Nat.mul_succ]; omega
      _ ≤ b * b ^ rest.length := Nat.mul_le_mul_left b ih

/-- Digits packed with the first one lowest read back by their place. -/
theorem foldr_digits_div_mod {α : Type} (b : Nat) (f : α → Nat) (hf : ∀ a, f a < b) (l : List α) :
    ∀ (i : Nat) (a : α), l[i]? = some a → l.foldr (fun a n => b * n + f a) 0 / b ^ i % b = f a := by
  induction l with
  | nil => intro i a h; simp at h
  | cons x rest ih =>
    intro i a h
    have digit := hf x
    rw [List.foldr_cons]
    cases i with
    | zero =>
      obtain rfl : x = a := by simpa using h
      rw [Nat.pow_zero, Nat.div_one, Nat.mul_add_mod, Nat.mod_eq_of_lt digit]
    | succ i =>
      rw [Nat.pow_succ', ← Nat.div_div_eq_div_mul, Nat.mul_add_div (by omega), Nat.div_eq_of_lt digit, Nat.add_zero]
      exact ih i a (by simpa using h)

theorem bit_lt_two (b : Bool) : bit b < 2 := by cases b <;> decide

/-- A byte of up to eight flags has the `i`-th in its bit `i` (R178). -/
theorem testBit_flagsByte_of_getElem? (flags : List Bool) (hlength : flags.length ≤ 8) (i : Nat) (b : Bool)
    (h : flags[i]? = some b) : (flagsByte flags).toNat.testBit i = b := by
  have fits : flags.foldr (fun b n => 2 * n + bit b) 0 ≤ 255 := by
    have below := foldr_digits_lt 2 bit bit_lt_two flags
    have power := Nat.pow_le_pow_right (n := 2) (by decide) hlength
    omega
  have digit := foldr_digits_div_mod 2 bit bit_lt_two flags i b h
  rw [flagsByte, toNat_byteOf _ fits, Nat.testBit_eq_decide_div_mod_eq, digit]
  cases b <;> rfl

/-! ### Signed fields of four bytes -/

/-- A value of a width reads back from its two's complement code. -/
theorem signedNat_signedCode_width (w : Nat) (x : Int) (hlo : -(2 : Int) ^ w ≤ x) (hhi : x < (2 : Int) ^ w) :
    signedNat (w + 1) (signedCode (w + 1) x) = x := by
  have whole : (2 : Int) ^ (w + 1) = 2 * 2 ^ w := by ring
  have half : ((2 ^ w : Nat) : Int) = (2 : Int) ^ w := by push_cast; rfl
  have coded : ((signedCode (w + 1) x : Nat) : Int) = x % (2 * 2 ^ w) := by
    rw [signedCode, whole, Int.toNat_of_nonneg (Int.emod_nonneg x (by positivity))]
  rw [signedNat, Nat.add_sub_cancel, whole]
  rcases Int.lt_or_le x 0 with negative | natural
  · rw [← Int.add_emod_right, Int.emod_eq_of_lt (by omega) (by omega)] at coded
    rw [if_neg (by omega), coded]
    omega
  · rw [Int.emod_eq_of_lt natural (by omega)] at coded
    rw [if_pos (by omega), coded]

/-- A thirty-two-bit value reads back from its code. -/
theorem signedNat_signedCode_word (x : Int) (h : signed32 x) : signedNat 32 (signedCode 32 x) = x := by
  obtain ⟨hlo, hhi⟩ := h
  exact signedNat_signedCode_width 31 x (by omega) (by omega)

/-- Lf's four bytes: its no-value code, or the value limited to the code's range (R178). -/
theorem lfBytes_spec (x : Option Int) :
    (x = none → bytesNat (lfBytes x) = 0x80000000) ∧
    (∀ v, x = some v → signedNat 32 (bytesNat (lfBytes x)) = limited 2147483647 v) := by
  refine ⟨fun h => by rw [h]; exact bytesNat_natBytes 4 0x80000000, fun v h => ?_⟩
  rw [h, lfBytes, bytesNat_intBytes, clampInt_limited 2147483647 v (by decide)]
  exact signedNat_signedCode_word _ (by unfold limited signed32; omega)

/-! ### The fields of the parts (R165, R178) -/

/-- The measurement byte: the measure state in bits 0 and 1, UF in bit 2, DEAD in bit 3. -/
theorem measureByte_fields (m : MeasureState) (uf dead : Bool) :
    (byteOf (m.portCode + 4 * bit uf + 8 * bit dead)).toNat % 4 = m.portCode ∧
    (byteOf (m.portCode + 4 * bit uf + 8 * bit dead)).toNat.testBit 2 = uf ∧
    (byteOf (m.portCode + 4 * bit uf + 8 * bit dead)).toNat.testBit 3 = dead := by
  cases m <;> cases uf <;> cases dead <;> decide

/-- Bytes 0 to 3. -/
theorem stationBytes_fields (s : State) :
    fieldAt s.stationBytes 0 1 = s.ctl.station.portCode ∧
    fieldAt s.stationBytes 1 1 = (flagsByte [s.ctl.cfgFault, decide (s.ctl.staged ≠ Staged.empty), s.ctl.hold,
      s.ctl.writeEnable, s.ctl.locked]).toNat ∧
    fieldAt s.stationBytes 2 1 = s.ctl.store.portCode ∧
    fieldAt s.stationBytes 3 1 = (byteOf (s.intake.measure.portCode + 4 * bit s.intake.uf + 8 * bit s.intake.dead)).toNat := by
  refine ⟨(fieldAt_of_getElem? _ 0 _ rfl).trans (toNat_byteOf _ ?_), fieldAt_of_getElem? _ 1 _ rfl,
    (fieldAt_of_getElem? _ 2 _ rfl).trans (toNat_byteOf _ ?_), fieldAt_of_getElem? _ 3 _ rfl⟩
  · cases s.ctl.station <;> decide
  · cases s.ctl.store <;> simp [StoreState.portCode]

/-- Bytes 4 to 6 on a feeder station (log entry 19). -/
theorem gensetBytes_feeder (s : State) (h : s.isFeeder = true) : fieldAt s.gensetBytes 0 3 = 0 := by
  rw [State.gensetBytes, isGenset_of_feeder s ((isFeeder_iff s).1 h)]
  rfl

/-- Bytes 4 to 6 on a genset station. -/
theorem gensetBytes_genset (s : State) (h : s.isGenset = true) :
    fieldAt s.gensetBytes 0 1 = s.ls.unit.code ∧ fieldAt s.gensetBytes 1 1 = s.reportedMode.code ∧
    fieldAt s.gensetBytes 2 1 = (flagsByte [s.ls.biasValid, s.demand.start, s.ls.stop, s.ls.trip, s.available,
      s.demand.lockout]).toNat := by
  rw [State.gensetBytes, if_pos h]
  refine ⟨(fieldAt_of_getElem? _ 0 _ rfl).trans (toNat_byteOf _ ?_),
    (fieldAt_of_getElem? _ 1 _ rfl).trans (toNat_byteOf _ ?_), fieldAt_of_getElem? _ 2 _ rfl⟩
  · cases s.ls.unit <;> decide
  · cases s.reportedMode <;> decide

/-- The codes of R178 for a group are those of its frames. -/
theorem groupState_code (x : GroupState) : x.code = sentGroup x := by cases x <;> rfl

/-- Bytes 7 to 16: the group states in group order, the cut rank, the derived tie state. -/
theorem shedBytes_fields (s : State) :
    (∀ g : GroupNo, fieldAt s.shedBytes g.val 1 = if s.isFeeder then sentGroup s.shed.groups[g].state else 6) ∧
    (s.shed.cut ≤ 255 → fieldAt s.shedBytes 8 1 = s.shed.cut) ∧
    fieldAt s.shedBytes 9 1 = bit s.view.tieClosed := by
  refine ⟨fun g => ?_, fun h => (fieldAt_of_getElem? _ 8 _ rfl).trans (toNat_byteOf _ h),
    (fieldAt_of_getElem? _ 9 _ rfl).trans (toNat_byteOf _ ?_)⟩
  · have numbered : groupNumbers[g.val]? = some g := by revert g; decide
    have stands : s.shedBytes[g.val]? = some (byteOf (s.groupReport g).code) := by
      rw [State.shedBytes, List.getElem?_append_left g.isLt, List.getElem?_map, numbered]
      rfl
    have fits : (s.groupReport g).code ≤ 255 := by cases s.groupReport g <;> decide
    rw [fieldAt_of_getElem? _ _ _ stands, toNat_byteOf _ fits, groupState_code, State.groupReport]
    exact apply_ite sentGroup _ _ _
  · cases s.view.tieClosed <;> decide

/-- A part of a record that is one field. -/
theorem fieldAt_whole (front part back : List Byte) (n len : Nat) (hn : front.length = n) (hlen : part.length = len) :
    fieldAt (front ++ part ++ back) n len = bytesNat part := by
  subst hlen
  exact (fieldAt_part front part back n 0 part.length hn (by omega)).trans (by simp [fieldAt])

section IslandBytes

variable (s : State)

/-- The five bytes after the sums: the entry counts, the error count and the last outcome. -/
def State.islandCounts : List Byte :=
  [byteOf (countState .fresh s.view.peers), byteOf (countState .stale s.view.peers),
   byteOf (countState .lost s.view.peers), byteOf s.link.errors, byteOf s.link.outcome.portCode]

theorem islandBytes_eq :
    s.islandBytes = intBytes 4 s.view.sums.c ++ intBytes 4 s.view.sums.l ++ intBytes 4 s.view.sums.d ++
      lfBytes s.view.sums.lf ++ valueBytes s.view.sums.pAvg ++ s.islandCounts := rfl

/-- Bytes 17 to 34: C, L, D, Lf and p_avg. -/
theorem islandBytes_sums :
    fieldAt s.islandBytes 0 4 = signedCode 32 s.view.sums.c ∧ fieldAt s.islandBytes 4 4 = signedCode 32 s.view.sums.l ∧
    fieldAt s.islandBytes 8 4 = signedCode 32 s.view.sums.d ∧
    fieldAt s.islandBytes 12 4 = bytesNat (lfBytes s.view.sums.lf) ∧
    fieldAt s.islandBytes 16 2 = bytesNat (valueBytes s.view.sums.pAvg) := by
  rw [islandBytes_eq]
  generalize s.view.sums.c = c, s.view.sums.l = l, s.view.sums.d = d, s.islandCounts = counts
  have lf := length_lfBytes s.view.sums.lf
  have pAvg := length_valueBytes s.view.sums.pAvg
  generalize lfBytes s.view.sums.lf = lfB at lf ⊢
  generalize valueBytes s.view.sums.pAvg = pB at pAvg ⊢
  have atC := fieldAt_whole [] (intBytes 4 c) (intBytes 4 l ++ intBytes 4 d ++ lfB ++ pB ++ counts) 0 4 rfl
    (length_intBytes 4 c)
  have atL := fieldAt_whole (intBytes 4 c) (intBytes 4 l) (intBytes 4 d ++ lfB ++ pB ++ counts) 4 4 (by simp)
    (length_intBytes 4 l)
  have atD := fieldAt_whole (intBytes 4 c ++ intBytes 4 l) (intBytes 4 d) (lfB ++ pB ++ counts) 8 4 (by simp)
    (length_intBytes 4 d)
  have atLf := fieldAt_whole (intBytes 4 c ++ intBytes 4 l ++ intBytes 4 d) lfB (pB ++ counts) 12 4 (by simp) lf
  have atAvg := fieldAt_whole (intBytes 4 c ++ intBytes 4 l ++ intBytes 4 d ++ lfB) pB counts 16 2 (by simp [lf]) pAvg
  simp only [bytesNat_intBytes, List.nil_append, List.append_assoc] at atC atL atD atLf atAvg ⊢
  exact ⟨atC, atL, atD, atLf, atAvg⟩

theorem islandBytes_count (i : Nat) (b : Byte) (h : s.islandCounts[i]? = some b) :
    fieldAt s.islandBytes (18 + i) 1 = b.toNat := by
  have front : (intBytes 4 s.view.sums.c ++ intBytes 4 s.view.sums.l ++ intBytes 4 s.view.sums.d ++
      lfBytes s.view.sums.lf ++ valueBytes s.view.sums.pAvg).length = 18 := by
    simp [length_lfBytes, length_valueBytes]
  rw [islandBytes_eq, fieldAt_append _ _ _ _ (by omega), front, Nat.add_sub_cancel_left, fieldAt_of_getElem? _ i b h]

/-- Bytes 35 to 39: the entries FRESH, STALE and LOST, the error count, the last outcome. -/
theorem islandBytes_counts :
    (s.view.peers.length ≤ 255 →
      fieldAt s.islandBytes 18 1 = countState .fresh s.view.peers ∧
      fieldAt s.islandBytes 19 1 = countState .stale s.view.peers ∧
      fieldAt s.islandBytes 20 1 = countState .lost s.view.peers) ∧
    (s.link.errors ≤ 255 → fieldAt s.islandBytes 21 1 = s.link.errors) ∧
    fieldAt s.islandBytes 22 1 = s.link.outcome.portCode := by
  have number (i n : Nat) (h : s.islandCounts[i]? = some (byteOf n)) (fits : n ≤ 255) :
      fieldAt s.islandBytes (18 + i) 1 = n := (islandBytes_count s i _ h).trans (toNat_byteOf n fits)
  refine ⟨fun h => ?_, number 3 _ rfl, number 4 _ rfl ?_⟩
  · have counted (st : EntryState) : countState st s.view.peers ≤ 255 := (List.length_filter_le _ _).trans h
    exact ⟨number 0 _ rfl (counted .fresh), number 1 _ rfl (counted .stale), number 2 _ rfl (counted .lost)⟩
  · cases s.link.outcome <;> decide

end IslandBytes

/-- Bytes 40 to 49: the slot states, two bits each, the capture counter, the time tag with its overflow flag. -/
theorem captureBytes_fields (s : State) :
    (∀ i : SlotNo, fieldAt s.captureBytes 0 2 / 4 ^ i.val % 4 = s.cap.slots[i].portCode) ∧
    (s.cap.counter ≤ 4294967295 → fieldAt s.captureBytes 2 4 = s.cap.counter) ∧
    (s.cap.tag ≤ 2147483647 → fieldAt s.captureBytes 6 4 = s.cap.tag + 2147483648 * bit s.cap.overflow) := by
  have slots := fieldAt_whole [] (natBytes 2 s.cap.slotCodes)
    (natBytes 4 s.cap.counter ++ tagBytes s.cap.tag s.cap.overflow) 0 2 rfl (length_natBytes 2 _)
  have counter := fieldAt_whole (natBytes 2 s.cap.slotCodes) (natBytes 4 s.cap.counter)
    (tagBytes s.cap.tag s.cap.overflow) 2 4 (length_natBytes 2 _) (length_natBytes 4 _)
  have tag := fieldAt_whole (natBytes 2 s.cap.slotCodes ++ natBytes 4 s.cap.counter)
    (tagBytes s.cap.tag s.cap.overflow) [] 6 4 (by simp) (length_natBytes 4 _)
  rw [List.append_nil, tagBytes, bytesNat_natBytes] at tag
  rw [bytesNat_natBytes] at slots counter
  have digit (x : Slot) : x.portCode < 4 := by cases x <;> simp [Slot.portCode]
  have code (i : SlotNo) : s.cap.slots[i].portCode < 4 := digit _
  refine ⟨fun i => ?_, fun h => counter.trans (Nat.mod_eq_of_lt (by omega)), fun h => tag.trans (Nat.mod_eq_of_lt ?_)⟩
  · have numbered : slotNumbers[i.val]? = some i := by revert i; decide
    have below := foldr_digits_lt 4 (fun i : SlotNo => s.cap.slots[i].portCode) code slotNumbers
    have place := foldr_digits_div_mod 4 (fun i : SlotNo => s.cap.slots[i].portCode) code slotNumbers i.val i numbered
    have field : fieldAt s.captureBytes 0 2 = s.cap.slotCodes := slots.trans (Nat.mod_eq_of_lt below)
    rw [field]
    exact place
  · have flag := bit_lt_two s.cap.overflow
    omega

/-! ### The record field by field -/

/-- Bytes 0 to 49 of the status record are its fields at their places (R165, R178). -/
theorem statusFields_statusReply (s : State) : statusFields s s.statusReply := by
  have station := statusReply_station s
  have genset := statusReply_genset s
  have shed := statusReply_shed s
  have island := statusReply_island s
  have capture := statusReply_capture s
  obtain ⟨state, flags, store, measured⟩ := stationBytes_fields s
  obtain ⟨measure, uf, dead⟩ := measureByte_fields s.intake.measure s.intake.uf s.intake.dead
  obtain ⟨groups, cut, tie⟩ := shedBytes_fields s
  obtain ⟨sumC, sumL, sumD, lf, pAvg⟩ := islandBytes_sums s
  obtain ⟨lfNone, lfSome⟩ := lfBytes_spec s.view.sums.lf
  obtain ⟨avgNone, avgSome⟩ := valueBytes_spec s.view.sums.pAvg
  obtain ⟨counts, errors, outcome⟩ := islandBytes_counts s
  obtain ⟨slots, counter, tag⟩ := captureBytes_fields s
  have flags := (station 1 1 (by decide)).trans flags
  have measured := (station 3 1 (by decide)).trans measured
  have word (pos : Nat) (x : Int) (h : pos + 4 ≤ 23) (field : fieldAt s.islandBytes pos 4 = signedCode 32 x)
      (hx : signed32 x) : signedAt s.statusReply (17 + pos) 4 = x := by
    rw [signedAt, island pos 4 h, field]
    exact signedNat_signedCode_word x hx
  have lf := (island 12 4 (by decide)).trans lf
  have pAvg := (island 16 2 (by decide)).trans pAvg
  refine ⟨fun _ => (station 0 1 (by decide)).trans (state.trans ?_), ?_, (station 2 1 (by decide)).trans (store.trans ?_),
    ?_, fun h => (genset 0 3 (by decide)).trans (gensetBytes_feeder s h), fun h => ?_,
    fun g => (shed g.val 1 (by omega)).trans (groups g), fun h => (shed 8 1 (by decide)).trans (cut h),
    (shed 9 1 (by decide)).trans tie, word 0 _ (by decide) sumC, word 4 _ (by decide) sumL, word 8 _ (by decide) sumD,
    fun h => lf.trans (lfNone h), fun x h => (congrArg (signedNat 32) lf).trans (lfSome x h),
    fun h => pAvg.trans (avgNone h), fun x h hx => (congrArg (signedNat 16) pAvg).trans (avgSome x h hx), fun h => ?_,
    fun h => (island 21 1 (by decide)).trans (errors h), (island 22 1 (by decide)).trans (outcome.trans ?_), fun i => ?_,
    fun h => (capture 2 4 (by decide)).trans (counter h), fun h => (capture 6 4 (by decide)).trans ((tag h).trans ?_)⟩
  · cases s.ctl.station <;> rfl
  · have flag := testBit_flagsByte_of_getElem? [s.ctl.cfgFault, decide (s.ctl.staged ≠ Staged.empty), s.ctl.hold,
      s.ctl.writeEnable, s.ctl.locked] (by simp)
    rw [flags]
    exact ⟨flag 0 _ rfl, flag 1 _ rfl, flag 2 _ rfl, flag 3 _ rfl, flag 4 _ rfl⟩
  · cases s.ctl.store <;> rfl
  · rw [measured]
    refine ⟨measure.trans ?_, uf, dead⟩
    cases s.intake.measure <;> rfl
  · obtain ⟨unit, mode, outputs⟩ := gensetBytes_genset s h
    have flag := testBit_flagsByte_of_getElem? [s.ls.biasValid, s.demand.start, s.ls.stop, s.ls.trip, s.available,
      s.demand.lockout] (by simp)
    have outputs := (genset 2 1 (by decide)).trans outputs
    refine ⟨(genset 0 1 (by decide)).trans (unit.trans ?_), (genset 1 1 (by decide)).trans (mode.trans ?_), ?_⟩
    · cases s.ls.unit <;> rfl
    · unfold State.reportedMode
      cases s.ls.biasValid <;> cases s.ctl.cfg.tun.mode <;> rfl
    · rw [outputs]
      exact ⟨flag 0 _ rfl, flag 1 _ rfl, flag 2 _ rfl, flag 3 _ rfl, by rw [flag 4 _ rfl]; exact available_iff s,
        flag 5 _ rfl⟩
  · obtain ⟨fresh, stale, lost⟩ := counts h
    exact ⟨(island 18 1 (by decide)).trans fresh, (island 19 1 (by decide)).trans stale,
      (island 20 1 (by decide)).trans lost⟩
  · cases s.link.outcome <;> rfl
  · rw [show fieldAt s.statusReply 40 2 = fieldAt s.captureBytes 0 2 from capture 0 2 (by decide)]
    refine (slots i).trans ?_
    cases s.cap.slots[i] <;> rfl
  · cases s.cap.overflow <;> rfl

/-! ### The status record and its flags -/

/-- READ-STATUS reports the change word and leaves it, the raised-again marks cleared (R165, R169). -/
theorem readStatus_spec (s : State) (hr : noRestart s) (hi : s.ctl.station ≠ .init) :
    ∃ t, exec (.readStatus []) s = .next t ∧ Safety.Answers .accepted s.statusReply .status t ∧
      t.port.changeWord = s.port.changeWord ∧ t.port.snapshot = s.port.changeWord ∧ t.port.again = 0 ∧
      t.port.attention = s.port.attention ∧ Kept [.port] s t :=
  ⟨_, exec_readStatus s hr hi, ⟨rfl, rfl⟩, rfl, rfl, rfl, rfl, by simp [Kept, takeSnapshot, afterSelect]⟩

/-- Settles O50: the record field by field, the snapshot at the judgment, and the clearing by the mode of acknowledgement. -/
theorem statusReadReportsAndClears : Obligations.StatusReadReportsAndClears := by
  unfold Obligations.StatusReadReportsAndClears
  refine fun s => ⟨fun hr hi => ?_, fun h => ?_⟩
  · obtain ⟨t, answered, answers, word, snapshot, again, attention, kept⟩ := readStatus_spec s hr hi
    exact ⟨t, s.statusReply, answered, answers, length_statusReply s, statusReply_changeWord s, statusFields_statusReply s,
      word, snapshot, again, attention, kept⟩
  · cases mode : s.ctl.cfg.ackMode with
    | readClear =>
      refine ⟨_, exec_statusReadClear_readClear s h mode, rfl, rfl, by simp [Kept], fun _ f => ?_, fun other => nomatch other⟩
      rw [flagOf_clearFlags, flagSet_and_not]
      rfl
    | writeBack =>
      refine ⟨_, exec_statusReadClear_writeBack s h mode, rfl, rfl, by simp [Kept], fun other => ?_, fun _ => ⟨rfl, rfl⟩⟩
      exact nomatch other

/-! ### ACK-CHANGES (R171) -/

/-- The two bytes of ACK-CHANGES spell its mask. -/
theorem ofNat_fieldAt_mask (hi lo : Byte) : BitVec.ofNat 16 (fieldAt [hi, lo] 0 2) = hi ++ lo := by
  have spelled : fieldAt [hi, lo] 0 2 = BitVec.toNat (hi ++ lo) := by
    rw [BitVec.toNat_append, ← Nat.shiftLeft_add_eq_or_of_lt lo.isLt, Nat.shiftLeft_eq]
    simp [fieldAt, bytesNat]
  rw [spelled]
  exact BitVec.ofNat_toNat 16 (hi ++ lo)

theorem exec_ackChanges (hi lo : Byte) (s : State) (hr : noRestart s) (past : s.ctl.station ≠ .init) :
    exec (.ackChanges [hi, lo]) s =
      .next (answerWith .accepted [] .plain (clearFlags (hi ++ lo) (afterSelect s))) := by
  have free : Service.ackChanges.verdict [hi, lo] s = none := verdict_past .ackChanges _ s past
  have answered : serve 0x06 [hi, lo] s = accept .ackChanges [hi, lo] (afterSelect s) := by
    rw [serve_eq 0x06 .ackChanges [hi, lo] s hr rfl rfl, free]
    rfl
  refine congrArg Host.Outcome.next (answered.trans ?_)
  rw [accept, Service.effect, ofNat_fieldAt_mask]
  rfl

/-- ACK-CHANGES clears the flags of its mask and leaves the others and the snapshot (R171). -/
theorem ackChanges_spec (hi lo : Byte) (s : State) (hr : noRestart s) (past : s.ctl.station ≠ .init) :
    ∃ t, exec (.ackChanges [hi, lo]) s = .next t ∧ Safety.Answers .accepted [] .plain t ∧
      (∀ f : ChangeFlag, flagOf t f = (flagOf s f && !(BitVec.getLsbD (hi ++ lo) f.bitIndex))) ∧
      t.port.snapshot = s.port.snapshot ∧ Kept [.port] s t :=
  ⟨_, exec_ackChanges hi lo s hr past, ⟨rfl, rfl⟩, flagOf_clearFlags (hi ++ lo) (afterSelect s), rfl,
    by simp [Kept, afterSelect]⟩

/-- Settles O51: the mask's flags, a raise before it and after it, and a READ-STATUS in WRITE-BACK mode. -/
theorem ackChangesClearsByMask : Obligations.AckChangesClearsByMask := by
  unfold Obligations.AckChangesClearsByMask
  refine fun hi lo s hr past => ⟨ackChanges_spec hi lo s hr past, fun f named => ?_, fun mode => ?_⟩
  · obtain ⟨u, before, -, cleared, -⟩ := ackChanges_spec hi lo (raise f s) hr past
    obtain ⟨v, after, answers, -, -, kept⟩ := ackChanges_spec hi lo s hr past
    obtain ⟨hctl, -⟩ := kept
    have waits : noRestart (raise f v) := by
      unfold noRestart
      rw [raise_phase, answers.1]
      exact fun h => nomatch h
    have there : (raise f v).ctl.station ≠ .init := by
      rw [raise_ctl, hctl (by decide)]
      exact past
    obtain ⟨w, read, reported, -⟩ := readStatus_spec (raise f v) waits there
    exact ⟨u, v, w, _, before, by rw [cleared, named, Bool.not_true, Bool.and_false], after, by simp, read, reported,
      statusReply_changeWord _⟩
  · obtain ⟨t, read, reported, word, -, -, -, kept⟩ := readStatus_spec s hr past
    obtain ⟨hctl, -⟩ := kept
    have still : t.ctl.cfg.ackMode = .writeBack := by rw [hctl (by decide)]; exact mode
    exact ⟨t, _, _, read, reported, statusReply_changeWord s, word, exec_statusReadClear_writeBack t reported.1 still, word⟩

end Machine
end Sys2Proof

/-! Proofs. A step takes the command at the front of the queue, and a command, whichever it is, leaves the queue and the count of
free choices to the step (log entries 1, 3). -/

namespace Sys2Proof
namespace Machine

/-- Settles O1: the front command is run, and it finds itself gone from the queue. -/
theorem stepRunsFrontCommand : Obligations.StepRunsFrontCommand := by
  unfold Obligations.StepRunsFrontCommand
  intro c rest s front
  unfold step
  rw [front]

/-! ### The queue and the count of free choices -/

/-- Between `s` and `t` neither the queue of the commands that wait nor the count of free choices has changed. -/
structure QueueKept (s t : State) : Prop where
  pending : t.pending = s.pending
  freeIndex : t.freeIndex = s.freeIndex

theorem QueueKept.refl (s : State) : QueueKept s s := ⟨rfl, rfl⟩

theorem QueueKept.trans {s t u : State} (h : QueueKept s t) (k : QueueKept t u) : QueueKept s u :=
  ⟨k.pending.trans h.pending, k.freeIndex.trans h.freeIndex⟩

theorem QueueKept.ite {s t : State} {c : Prop} [Decidable c] (h : QueueKept s t) : QueueKept s (if c then t else s) := by
  split
  · exact h
  · exact .refl s

/-! ### An accepted sample and an expiry, part by part (R3, R144) -/

theorem queueKept_acceptSample (x : Sample) (order : List SamplePart) (s : State) : QueueKept s (acceptSample x order s) := by
  have handed (t : State) (part : SamplePart) : QueueKept t (handPart (s.sampleNews x) part t) := ⟨by simp, by simp⟩
  exact foldl_keeps _ (QueueKept s) (fun t part kept => kept.trans (handed t part)) _ _ ⟨by simp, by simp⟩

theorem queueKept_testPoint (r : ExpiryRun) : QueueKept r.state (testPoint r).state := by
  cases h : r.state.ctl.station <;> simp only [testPoint, h]
  case listen =>
    split
    · exact ⟨enterRun_pending _, enterRun_freeIndex _⟩
    · exact ⟨rfl, rfl⟩
  case run =>
    split
    · exact ⟨enterFallback_pending _, enterFallback_freeIndex _⟩
    · exact .refl _
  case fallback =>
    split
    · split
      · exact ⟨returnToRun_pending _, returnToRun_freeIndex _⟩
      · exact ⟨rfl, rfl⟩
    · exact ⟨rfl, rfl⟩
  all_goals exact .refl _

theorem queueKept_demandWork (r : ExpiryRun) : QueueKept r.state (demandWork r).state := by
  have before : QueueKept r.state (beforeStop r.state) := ⟨beforeStop_pending _, beforeStop_freeIndex _⟩
  simp only [demandWork]
  split
  · split
    · exact before.trans ⟨stopWork_pending _, stopWork_freeIndex _⟩
    · exact before
  · exact .refl _

theorem queueKept_expiryPart (tieChange : Bool) (part : ExpiryPart) (r : ExpiryRun) :
    QueueKept r.state (expiryPart tieChange part r).state := by
  cases part with
  | loadShare => exact ⟨loadShareWork_pending _ _, loadShareWork_freeIndex _ _⟩
  | demand => exact queueKept_demandWork r
  | shed => constructor <;> simp [expiryPart, shedWork, ExpiryRun.withState]
  | link => exact ⟨linkWork_pending _, linkWork_freeIndex _⟩

theorem queueKept_expiryRun (order : List ExpiryPart) (s : State) : QueueKept s (expiryRun order s).state := by
  have reached : QueueKept s (atTestPoint s) := ⟨atTestPoint_pending s, atTestPoint_freeIndex s⟩
  exact foldl_keeps _ (fun r => QueueKept s r.state) (fun r part kept => kept.trans (queueKept_expiryPart _ part r)) _ _
    (reached.trans (queueKept_testPoint { state := atTestPoint s, events := [] }))

/-! ### The service port (R162) -/

theorem queueKept_answerCommand (code : Byte) (fields : List Byte) (s : State) :
    QueueKept s (answerCommand code fields s) := by
  unfold answerCommand
  split
  · split
    · exact .refl s
    · next c _ => exact ⟨Service.effect_pending c fields s, Service.effect_freeIndex c fields s⟩
  · exact ⟨refuse_pending _ s, refuse_freeIndex _ s⟩

theorem queueKept_endSelect (s : State) : QueueKept s (endSelect s) := ⟨endSelect_pending s, endSelect_freeIndex s⟩

theorem queueKept_serve (code : Byte) (fields : List Byte) (s : State) : QueueKept s (serve code fields s) :=
  (queueKept_endSelect s).trans (queueKept_answerCommand code fields _)

theorem queueKept_statusReadClear (s : State) : Answers (QueueKept s) (execStatusReadClear s) := by
  unfold execStatusReadClear
  split
  · cases s.ctl.cfg.ackMode <;> exact answers_next ⟨rfl, rfl⟩
  · exact answers_next (.refl s)

/-! ### Intake and the share link -/

theorem queueKept_sampleArrival (bytes : List Byte) (order : List SamplePart) (s : State) :
    Answers (QueueKept s) (execSampleArrival bytes order s) := by
  unfold execSampleArrival
  split
  · cases parseSample s.ctl.straps.role bytes with
    | none => exact answers_next (.refl s)
    | some x => exact answers_next (queueKept_acceptSample x order s)
  · exact answers_next (.refl s)

theorem queueKept_transitTimeout (b : Breaker) (s : State) : Answers (QueueKept s) (execTransitTimeout b s) := by
  cases b with
  | set => exact answers_ite (.refl s) fun _ => ⟨rfl, rfl⟩
  | group g => exact answers_ite (.refl s) fun _ => ⟨rfl, rfl⟩
  | tie => exact answers_ite (.refl s) fun _ => ⟨deriveTieNow_pending _, deriveTieNow_freeIndex _⟩

theorem queueKept_frameStart (s : State) : Answers (QueueKept s) (execFrameStart s) := by
  unfold execFrameStart
  split
  · cases s.offer with
    | none => exact answers_next (.refl s)
    | some x => exact answers_next ⟨rfl, rfl⟩
  · exact answers_next (.refl s)

theorem queueKept_arbitrationLoss (s : State) : Answers (QueueKept s) (execArbitrationLoss s) := by
  unfold execArbitrationLoss
  cases s.link.flight with
  | none => exact answers_next (.refl s)
  | some fl => exact answers_next ⟨loseFrame_pending fl s, loseFrame_freeIndex fl s⟩

theorem queueKept_transmitError (s : State) : Answers (QueueKept s) (execTransmitError s) := by
  intro t e
  rcases execTransmitError_cases s t e with ⟨-, rfl⟩ | ⟨fl, -, ⟨-, rfl⟩ | ⟨-, rfl, -⟩⟩
  · exact .refl _
  · exact ⟨errFrame_pending fl s, errFrame_freeIndex fl s⟩
  · exact ⟨errFrame_pending fl s, errFrame_freeIndex fl s⟩

theorem queueKept_frameReceived (line : List Bool) (captureFirst : Bool) (s : State) :
    Answers (QueueKept s) (execFrameReceived line captureFirst s) := by
  unfold execFrameReceived
  split
  · cases receive line with
    | incomplete => exact answers_next (.refl s)
    | dropped n => exact answers_next ⟨dropFrame_pending line n s, dropFrame_freeIndex line n s⟩
    | valid f => exact answers_next ⟨validFrame_pending line f captureFirst s, validFrame_freeIndex line f captureFirst s⟩
  · exact answers_next ⟨passBy_pending line s, passBy_freeIndex line s⟩

/-! ### Every command -/

theorem queueKept_resetStation (pins : Straps) (cut : StoreCut) (s : State) : QueueKept s (resetStation pins cut s) :=
  ⟨resetStation_pending pins cut s, resetStation_freeIndex pins cut s⟩

theorem queueKept_storeCompletion (s : State) : Answers (QueueKept s) (execStoreCompletion s) := by
  unfold execStoreCompletion
  split
  · exact answers_next (.refl s)
  · exact answers_next ⟨rfl, rfl⟩

theorem exec_queueKept (c : Instr) (s : State) : Answers (QueueKept s) (exec c s) := by
  have expired (order : List ExpiryPart) := queueKept_expiryRun order s
  cases c with
  | reset pins cut => exact answers_next (queueKept_resetStation pins cut s)
  | restartReset pins => exact answers_ite (.refl s) fun _ => queueKept_resetStation pins .before s
  | endOfInit => exact answers_ite (.refl s) fun _ => ⟨endInit_pending s, endInit_freeIndex s⟩
  | sampleArrival bytes order => exact queueKept_sampleArrival bytes order s
  | measureTimerHeld => exact answers_ite (.refl s) fun _ => ⟨rfl, rfl⟩
  | measureTimerFault => exact answers_ite (.refl s) fun _ => ⟨by simp, by simp⟩
  | transitTimeout b => exact queueKept_transitTimeout b s
  | shareTimerExpiry order => exact answers_next (expired order).ite
  | listenEnd order => exact answers_next (expired order).ite
  | fallbackExit order => exact answers_next (expired order).ite
  | startAttemptTimeout order => exact answers_next (expired order).ite
  | stopNeedExpiry order => exact answers_next (expired order).ite
  | settleTimerExpiry order => exact answers_next (expired order).ite
  | ladderStep order => exact answers_next (expired order).ite
  | restorationStep order => exact answers_next (expired order).ite
  | confirmTimeout g => exact answers_ite (.refl s) fun _ => ⟨rfl, rfl⟩
  | tripTimeout => exact answers_ite (.refl s) fun _ => ⟨rfl, rfl⟩
  | stopPulseEnd => exact answers_ite (.refl s) fun _ => ⟨rfl, rfl⟩
  | timeTagWrap => exact answers_ite (.refl s) fun _ => ⟨rfl, rfl⟩
  | attentionPulseEnd => exact answers_ite (.refl s) fun _ => ⟨rfl, rfl⟩
  | lineIdle => exact answers_ite (.refl s) fun _ => ⟨rfl, rfl⟩
  | lineBusy => exact answers_next ⟨rfl, rfl⟩
  | frameStart => exact queueKept_frameStart s
  | arbitrationLoss => exact queueKept_arbitrationLoss s
  | transmitError => exact queueKept_transmitError s
  | frameReceived line captureFirst => exact queueKept_frameReceived line captureFirst s
  | readoutComplete => exact answers_ite (.refl s) fun _ => ⟨freeHead_pending _, freeHead_freeIndex _⟩
  | statusReadClear => exact queueKept_statusReadClear s
  | storeCompletion => exact queueKept_storeCompletion s
  | selectDeassert => exact answers_next (queueKept_endSelect s)
  | _ => exact answers_next (queueKept_serve _ _ s)

/-- Settles O3, command by command: the shared operations write the blocks alone. -/
theorem commandsLeaveTheQueue : Obligations.CommandsLeaveTheQueue := by
  unfold Obligations.CommandsLeaveTheQueue
  intro c s t e
  obtain ⟨pending, freeIndex⟩ := exec_queueKept c s t e
  exact ⟨pending, freeIndex⟩

end Machine
end Sys2Proof
